-- ==== Sys2Proof/Word.lean ====
section
/-! DEFINITION. The widths of the values the block handles (00_scope.md R13, R14, R16): bytes, 16-bit fields,
byte sequences, 7-bit addresses, 32-bit millisecond counts and the two-valued signal level. -/

namespace Sys2Proof

/-- A byte, bit 0 least significant (R13). -/
abbrev Byte := BitVec 8

/-- A 16-bit value: a clock divisor or a length field (R68). -/
abbrev Half := BitVec 16

/-- A finite byte sequence in wire order, first byte first (R14). -/
abbrev Bytes := List Byte

/-- A 7-bit I2C address (R191). -/
abbrev Addr7 := BitVec 7

/-- A millisecond count of `delay` (R275). -/
abbrev Millis := BitVec 32

/-- A two-valued signal level, never tri-state, written 0 and 1 (R16). -/
inductive Bit where
  | zero
  | one
  deriving DecidableEq, Repr

end Sys2Proof
end

