-- ==== Sys2Proof/Syntax.lean ====
section
/-! DEFINITION. Syntax: the catalog of the 40 engine commands (30_encoding.md R96), the operand types of R16, and
`Instr`, one constructor per row of spec/opcode_table.json: 40 engine commands in their function form
(40_encoder.md R120), 40 ENC requests, 32 requests of the I2C, SPI, DC and XP units (30_encoding.md R104). -/

namespace Sys2Proof

/-- Clock mode, CPOL and CPHA restricted to the two supported modes (R35). -/
inductive Mode where
  | mode0
  | mode2
  deriving DecidableEq, Repr

/-- Bit order of a transfer (R36). -/
inductive Order where
  | msbFirst
  | lsbFirst
  deriving DecidableEq, Repr

/-- Chip-select policy (R37, R234). -/
inductive CsPolicy where
  | activeLow
  | activeHigh
  | defaultLow
  | defaultHigh
  deriving DecidableEq, Repr

/-- Clock edge: plus is the rising one, minus the falling one (R16). -/
inductive Edge where
  | plus
  | minus
  deriving DecidableEq, Repr

/-- The operand shapes of engine commands (R91 to R95): none, divisor, pin set, byte out, byte in, byte duplex,
bit out, bit in, bit duplex. -/
inductive Format where
  | N | D | P | YO | YI | YIO | BO | BI | BIO
  deriving DecidableEq, Repr

/-- The engine command catalog, in the order of R96. -/
inductive Cmd where
  | setClockDivisor
  | clkDiv5Disable
  | clkDiv5Enable
  | threePhaseEnable
  | threePhaseDisable
  | adaptiveEnable
  | adaptiveDisable
  | loopbackConnect
  | loopbackDisconnect
  | sendImmediate
  | waitOnHigh
  | waitOnLow
  | setDataBitsLow
  | setDataBitsHigh
  | readDataBitsLow
  | readDataBitsHigh
  | bytesOutPlusMsb
  | bytesOutMinusMsb
  | bytesOutPlusLsb
  | bytesOutMinusLsb
  | bytesInPlusMsb
  | bytesInMinusMsb
  | bytesInPlusLsb
  | bytesInMinusLsb
  | bytesInPlusOutMinusMsb
  | bytesInMinusOutPlusMsb
  | bytesInPlusOutMinusLsb
  | bytesInMinusOutPlusLsb
  | bitsOutPlusMsb
  | bitsOutMinusMsb
  | bitsOutPlusLsb
  | bitsOutMinusLsb
  | bitsInPlusMsb
  | bitsInMinusMsb
  | bitsInPlusLsb
  | bitsInMinusLsb
  | bitsInPlusOutMinusMsb
  | bitsInMinusOutPlusMsb
  | bitsInPlusOutMinusLsb
  | bitsInMinusOutPlusLsb
  deriving DecidableEq, Repr

/-- One constructor per row of spec/opcode_table.json. In the payload forms `off` and `len` are the optional operands
`off` (default 0) and `L` (default `len(payload) - off`) of R141 to R152: `none` is the default. Lengths and counts
are natural numbers of any size (R121). -/
inductive Instr where
  /-- `SetClockDivisor`, function form `enc_SetClockDivisor` (R125). -/
  | setClockDivisor (div : Half)
  /-- `ClkDiv5Disable`, function form `enc_ClkDiv5Disable` (R126). -/
  | clkDiv5Disable
  /-- `ClkDiv5Enable`, function form `enc_ClkDiv5Enable` (R127). -/
  | clkDiv5Enable
  /-- `ThreePhaseEnable`, function form `enc_ThreePhaseEnable` (R128). -/
  | threePhaseEnable
  /-- `ThreePhaseDisable`, function form `enc_ThreePhaseDisable` (R129). -/
  | threePhaseDisable
  /-- `AdaptiveEnable`, function form `enc_AdaptiveEnable` (R130). -/
  | adaptiveEnable
  /-- `AdaptiveDisable`, function form `enc_AdaptiveDisable` (R131). -/
  | adaptiveDisable
  /-- `LoopbackConnect`, function form `enc_LoopbackConnect` (R132). -/
  | loopbackConnect
  /-- `LoopbackDisconnect`, function form `enc_LoopbackDisconnect` (R133). -/
  | loopbackDisconnect
  /-- `SendImmediate`, function form `enc_SendImmediate` (R134). -/
  | sendImmediate
  /-- `WaitOnHigh`, function form `enc_WaitOnHigh` (R135). -/
  | waitOnHigh
  /-- `WaitOnLow`, function form `enc_WaitOnLow` (R136). -/
  | waitOnLow
  /-- `SetDataBitsLow`, function form `enc_SetDataBitsLow` (R137). -/
  | setDataBitsLow (val dir : Byte)
  /-- `SetDataBitsHigh`, function form `enc_SetDataBitsHigh` (R138). -/
  | setDataBitsHigh (val dir : Byte)
  /-- `ReadDataBitsLow`, function form `enc_ReadDataBitsLow` (R139). -/
  | readDataBitsLow
  /-- `ReadDataBitsHigh`, function form `enc_ReadDataBitsHigh` (R140). -/
  | readDataBitsHigh
  /-- `BytesOutPlusMsb`, function form `enc_BytesOutPlusMsb` (R141). -/
  | bytesOutPlusMsb (payload : Bytes) (off len : Option Nat)
  /-- `BytesOutMinusMsb`, function form `enc_BytesOutMinusMsb` (R142). -/
  | bytesOutMinusMsb (payload : Bytes) (off len : Option Nat)
  /-- `BytesOutPlusLsb`, function form `enc_BytesOutPlusLsb` (R143). -/
  | bytesOutPlusLsb (payload : Bytes) (off len : Option Nat)
  /-- `BytesOutMinusLsb`, function form `enc_BytesOutMinusLsb` (R144). -/
  | bytesOutMinusLsb (payload : Bytes) (off len : Option Nat)
  /-- `BytesInPlusMsb`, function form `enc_BytesInPlusMsb` (R145). -/
  | bytesInPlusMsb (len : Nat)
  /-- `BytesInMinusMsb`, function form `enc_BytesInMinusMsb` (R146). -/
  | bytesInMinusMsb (len : Nat)
  /-- `BytesInPlusLsb`, function form `enc_BytesInPlusLsb` (R147). -/
  | bytesInPlusLsb (len : Nat)
  /-- `BytesInMinusLsb`, function form `enc_BytesInMinusLsb` (R148). -/
  | bytesInMinusLsb (len : Nat)
  /-- `BytesInPlusOutMinusMsb`, function form `enc_BytesInPlusOutMinusMsb` (R149). -/
  | bytesInPlusOutMinusMsb (payload : Bytes) (off len : Option Nat)
  /-- `BytesInMinusOutPlusMsb`, function form `enc_BytesInMinusOutPlusMsb` (R150). -/
  | bytesInMinusOutPlusMsb (payload : Bytes) (off len : Option Nat)
  /-- `BytesInPlusOutMinusLsb`, function form `enc_BytesInPlusOutMinusLsb` (R151). -/
  | bytesInPlusOutMinusLsb (payload : Bytes) (off len : Option Nat)
  /-- `BytesInMinusOutPlusLsb`, function form `enc_BytesInMinusOutPlusLsb` (R152). -/
  | bytesInMinusOutPlusLsb (payload : Bytes) (off len : Option Nat)
  /-- `BitsOutPlusMsb`, function form `enc_BitsOutPlusMsb` (R153). -/
  | bitsOutPlusMsb (data : Byte) (count : Nat)
  /-- `BitsOutMinusMsb`, function form `enc_BitsOutMinusMsb` (R154). -/
  | bitsOutMinusMsb (data : Byte) (count : Nat)
  /-- `BitsOutPlusLsb`, function form `enc_BitsOutPlusLsb` (R155). -/
  | bitsOutPlusLsb (data : Byte) (count : Nat)
  /-- `BitsOutMinusLsb`, function form `enc_BitsOutMinusLsb` (R156). -/
  | bitsOutMinusLsb (data : Byte) (count : Nat)
  /-- `BitsInPlusMsb`, function form `enc_BitsInPlusMsb` (R157). -/
  | bitsInPlusMsb (count : Nat)
  /-- `BitsInMinusMsb`, function form `enc_BitsInMinusMsb` (R158). -/
  | bitsInMinusMsb (count : Nat)
  /-- `BitsInPlusLsb`, function form `enc_BitsInPlusLsb` (R159). -/
  | bitsInPlusLsb (count : Nat)
  /-- `BitsInMinusLsb`, function form `enc_BitsInMinusLsb` (R160). -/
  | bitsInMinusLsb (count : Nat)
  /-- `BitsInPlusOutMinusMsb`, function form `enc_BitsInPlusOutMinusMsb` (R161). -/
  | bitsInPlusOutMinusMsb (data : Byte) (count : Nat)
  /-- `BitsInMinusOutPlusMsb`, function form `enc_BitsInMinusOutPlusMsb` (R162). -/
  | bitsInMinusOutPlusMsb (data : Byte) (count : Nat)
  /-- `BitsInPlusOutMinusLsb`, function form `enc_BitsInPlusOutMinusLsb` (R163). -/
  | bitsInPlusOutMinusLsb (data : Byte) (count : Nat)
  /-- `BitsInMinusOutPlusLsb`, function form `enc_BitsInMinusOutPlusLsb` (R164). -/
  | bitsInMinusOutPlusLsb (data : Byte) (count : Nat)
  /-- `ENC.SetClockDivisor` (R125, R124). -/
  | encSetClockDivisor (div : Half)
  /-- `ENC.ClkDiv5Disable` (R126, R124). -/
  | encClkDiv5Disable
  /-- `ENC.ClkDiv5Enable` (R127, R124). -/
  | encClkDiv5Enable
  /-- `ENC.ThreePhaseEnable` (R128, R124). -/
  | encThreePhaseEnable
  /-- `ENC.ThreePhaseDisable` (R129, R124). -/
  | encThreePhaseDisable
  /-- `ENC.AdaptiveEnable` (R130, R124). -/
  | encAdaptiveEnable
  /-- `ENC.AdaptiveDisable` (R131, R124). -/
  | encAdaptiveDisable
  /-- `ENC.LoopbackConnect` (R132, R124). -/
  | encLoopbackConnect
  /-- `ENC.LoopbackDisconnect` (R133, R124). -/
  | encLoopbackDisconnect
  /-- `ENC.SendImmediate` (R134, R124). -/
  | encSendImmediate
  /-- `ENC.WaitOnHigh` (R135, R124). -/
  | encWaitOnHigh
  /-- `ENC.WaitOnLow` (R136, R124). -/
  | encWaitOnLow
  /-- `ENC.SetDataBitsLow` (R137, R124). -/
  | encSetDataBitsLow (val dir : Byte)
  /-- `ENC.SetDataBitsHigh` (R138, R124). -/
  | encSetDataBitsHigh (val dir : Byte)
  /-- `ENC.ReadDataBitsLow` (R139, R124). -/
  | encReadDataBitsLow
  /-- `ENC.ReadDataBitsHigh` (R140, R124). -/
  | encReadDataBitsHigh
  /-- `ENC.BytesOutPlusMsb` (R141, R124). -/
  | encBytesOutPlusMsb (payload : Bytes) (off len : Option Nat)
  /-- `ENC.BytesOutMinusMsb` (R142, R124). -/
  | encBytesOutMinusMsb (payload : Bytes) (off len : Option Nat)
  /-- `ENC.BytesOutPlusLsb` (R143, R124). -/
  | encBytesOutPlusLsb (payload : Bytes) (off len : Option Nat)
  /-- `ENC.BytesOutMinusLsb` (R144, R124). -/
  | encBytesOutMinusLsb (payload : Bytes) (off len : Option Nat)
  /-- `ENC.BytesInPlusMsb` (R145, R124). -/
  | encBytesInPlusMsb (len : Nat)
  /-- `ENC.BytesInMinusMsb` (R146, R124). -/
  | encBytesInMinusMsb (len : Nat)
  /-- `ENC.BytesInPlusLsb` (R147, R124). -/
  | encBytesInPlusLsb (len : Nat)
  /-- `ENC.BytesInMinusLsb` (R148, R124). -/
  | encBytesInMinusLsb (len : Nat)
  /-- `ENC.BytesInPlusOutMinusMsb` (R149, R124). -/
  | encBytesInPlusOutMinusMsb (payload : Bytes) (off len : Option Nat)
  /-- `ENC.BytesInMinusOutPlusMsb` (R150, R124). -/
  | encBytesInMinusOutPlusMsb (payload : Bytes) (off len : Option Nat)
  /-- `ENC.BytesInPlusOutMinusLsb` (R151, R124). -/
  | encBytesInPlusOutMinusLsb (payload : Bytes) (off len : Option Nat)
  /-- `ENC.BytesInMinusOutPlusLsb` (R152, R124). -/
  | encBytesInMinusOutPlusLsb (payload : Bytes) (off len : Option Nat)
  /-- `ENC.BitsOutPlusMsb` (R153, R124). -/
  | encBitsOutPlusMsb (data : Byte) (count : Nat)
  /-- `ENC.BitsOutMinusMsb` (R154, R124). -/
  | encBitsOutMinusMsb (data : Byte) (count : Nat)
  /-- `ENC.BitsOutPlusLsb` (R155, R124). -/
  | encBitsOutPlusLsb (data : Byte) (count : Nat)
  /-- `ENC.BitsOutMinusLsb` (R156, R124). -/
  | encBitsOutMinusLsb (data : Byte) (count : Nat)
  /-- `ENC.BitsInPlusMsb` (R157, R124). -/
  | encBitsInPlusMsb (count : Nat)
  /-- `ENC.BitsInMinusMsb` (R158, R124). -/
  | encBitsInMinusMsb (count : Nat)
  /-- `ENC.BitsInPlusLsb` (R159, R124). -/
  | encBitsInPlusLsb (count : Nat)
  /-- `ENC.BitsInMinusLsb` (R160, R124). -/
  | encBitsInMinusLsb (count : Nat)
  /-- `ENC.BitsInPlusOutMinusMsb` (R161, R124). -/
  | encBitsInPlusOutMinusMsb (data : Byte) (count : Nat)
  /-- `ENC.BitsInMinusOutPlusMsb` (R162, R124). -/
  | encBitsInMinusOutPlusMsb (data : Byte) (count : Nat)
  /-- `ENC.BitsInPlusOutMinusLsb` (R163, R124). -/
  | encBitsInPlusOutMinusLsb (data : Byte) (count : Nat)
  /-- `ENC.BitsInMinusOutPlusLsb` (R164, R124). -/
  | encBitsInMinusOutPlusLsb (data : Byte) (count : Nat)
  /-- `I2C.Init` (R186). -/
  | i2cInit (div : Half) (t1 t2 t3 t4 t5 : Nat)
  /-- `I2C.SetTiming` (R187). -/
  | i2cSetTiming (t1 t2 t3 t4 t5 : Nat)
  /-- `I2C.Start` (R194). -/
  | i2cStart
  /-- `I2C.Stop` (R195). -/
  | i2cStop
  /-- `I2C.SendByte` (R196). -/
  | i2cSendByte (b : Byte)
  /-- `I2C.SendAddress` (R197). -/
  | i2cSendAddress (a7 : Addr7) (rw : Bit)
  /-- `I2C.ReceiveByte` (R198). -/
  | i2cReceiveByte (a : Bool)
  /-- `I2C.Scan` (R199). -/
  | i2cScan
  /-- `I2C.Write` (R201). -/
  | i2cWrite (a7 : Addr7) (reg : Byte) (data : Bytes)
  /-- `I2C.Read` (R202). -/
  | i2cRead (a7 : Addr7) (reg : Byte) (n : Nat)
  /-- `I2C.FastWrite` (R203). -/
  | i2cFastWrite (a7 : Addr7) (reg : Byte) (data : Bytes)
  /-- `I2C.FastRead` (R204). -/
  | i2cFastRead (a7 : Addr7) (reg : Byte) (n : Nat)
  /-- `SPI.Init` (R238). -/
  | spiInit (mode : Mode) (order : Order) (csPin : Byte) (policy : CsPolicy) (lowVal lowDir : Byte)
  /-- `SPI.SetCsLevel` (R239). -/
  | spiSetCsLevel (level : Bit)
  /-- `SPI.Enable` (R240). -/
  | spiEnable
  /-- `SPI.Disable` (R241). -/
  | spiDisable
  /-- `SPI.Write` (R242). -/
  | spiWrite (payload : Bytes)
  /-- `SPI.Transfer` (R243). -/
  | spiTransfer (payload : Bytes)
  /-- `DC.Init` (R262). -/
  | dcInit (mode : Mode) (order : Order) (csPin : Byte) (policy : CsPolicy) (lowVal lowDir dcPin rstPin highVal highDir : Byte)
  /-- `DC.SetDcLevel` (R265). -/
  | dcSetDcLevel (isCommand : Bool)
  /-- `DC.Write` (R267). -/
  | dcWrite (payload : Bytes) (isCommand : Bool)
  /-- `DC.Transfer` (R268). -/
  | dcTransfer (payload : Bytes) (isCommand : Bool)
  /-- `DC.CommandStream` (R272). -/
  | dcCommandStream (buf : Bytes)
  /-- `DC.ResetDance` (R274). -/
  | dcResetDance
  /-- `DC.ResetTimed` (R275). -/
  | dcResetTimed (ms1 ms2 : Millis)
  /-- `XP.Enqueue` (R290). -/
  | xpEnqueue (bytes : Bytes)
  /-- `XP.Execute` (R291). -/
  | xpExecute
  /-- `XP.Read` (R292). -/
  | xpRead (n : Nat)
  /-- `XP.ClearInput` (R293). -/
  | xpClearInput
  /-- `XP.ClearOutput` (R294). -/
  | xpClearOutput
  /-- `XP.SetClockDivisor` (R295). -/
  | xpSetClockDivisor (d : Half)
  /-- `XP.SetLoopback` (R296). -/
  | xpSetLoopback (b : Bool)
  deriving DecidableEq, Repr

end Sys2Proof
end

