-- ==== Sys2Proof/WellFormed.lean ====
section
/-! DEFINITION. WellFormed: which instructions have an encoding. A request always has one: every operand is typed at
the width of the request port (R166) and naturals and sequences of any size are encoded. An engine command is its wire
form, so its length must be legal (R94, R95, R121) and its payload whole, with no offset and no length operand. -/

namespace Sys2Proof

/-- A payload that one byte-transfer command can carry whole: 1 to 65536 bytes (R94), both optional operands absent. -/
def wholePayload (payload : Bytes) (off len : Option Nat) : Bool :=
  decide (1 ≤ payload.length ∧ payload.length ≤ 65536) && off.isNone && len.isNone

/-- A byte count of the wire form: 1 to 65536 (R94). -/
def wireByteCount (len : Nat) : Bool := decide (1 ≤ len ∧ len ≤ 65536)

/-- A bit count of the wire form: 1 to 8 (R95). -/
def wireBitCount (count : Nat) : Bool := decide (1 ≤ count ∧ count ≤ 8)

/-- The instruction has an encoding. -/
def Instr.wellFormed (i : Instr) : Bool :=
  match i with
  | .setClockDivisor _ => true
  | .clkDiv5Disable => true
  | .clkDiv5Enable => true
  | .threePhaseEnable => true
  | .threePhaseDisable => true
  | .adaptiveEnable => true
  | .adaptiveDisable => true
  | .loopbackConnect => true
  | .loopbackDisconnect => true
  | .sendImmediate => true
  | .waitOnHigh => true
  | .waitOnLow => true
  | .setDataBitsLow _ _ => true
  | .setDataBitsHigh _ _ => true
  | .readDataBitsLow => true
  | .readDataBitsHigh => true
  | .bytesOutPlusMsb payload off len => wholePayload payload off len
  | .bytesOutMinusMsb payload off len => wholePayload payload off len
  | .bytesOutPlusLsb payload off len => wholePayload payload off len
  | .bytesOutMinusLsb payload off len => wholePayload payload off len
  | .bytesInPlusMsb len => wireByteCount len
  | .bytesInMinusMsb len => wireByteCount len
  | .bytesInPlusLsb len => wireByteCount len
  | .bytesInMinusLsb len => wireByteCount len
  | .bytesInPlusOutMinusMsb payload off len => wholePayload payload off len
  | .bytesInMinusOutPlusMsb payload off len => wholePayload payload off len
  | .bytesInPlusOutMinusLsb payload off len => wholePayload payload off len
  | .bytesInMinusOutPlusLsb payload off len => wholePayload payload off len
  | .bitsOutPlusMsb _ count => wireBitCount count
  | .bitsOutMinusMsb _ count => wireBitCount count
  | .bitsOutPlusLsb _ count => wireBitCount count
  | .bitsOutMinusLsb _ count => wireBitCount count
  | .bitsInPlusMsb count => wireBitCount count
  | .bitsInMinusMsb count => wireBitCount count
  | .bitsInPlusLsb count => wireBitCount count
  | .bitsInMinusLsb count => wireBitCount count
  | .bitsInPlusOutMinusMsb _ count => wireBitCount count
  | .bitsInMinusOutPlusMsb _ count => wireBitCount count
  | .bitsInPlusOutMinusLsb _ count => wireBitCount count
  | .bitsInMinusOutPlusLsb _ count => wireBitCount count
  | .encSetClockDivisor _ => true
  | .encClkDiv5Disable => true
  | .encClkDiv5Enable => true
  | .encThreePhaseEnable => true
  | .encThreePhaseDisable => true
  | .encAdaptiveEnable => true
  | .encAdaptiveDisable => true
  | .encLoopbackConnect => true
  | .encLoopbackDisconnect => true
  | .encSendImmediate => true
  | .encWaitOnHigh => true
  | .encWaitOnLow => true
  | .encSetDataBitsLow _ _ => true
  | .encSetDataBitsHigh _ _ => true
  | .encReadDataBitsLow => true
  | .encReadDataBitsHigh => true
  | .encBytesOutPlusMsb _ _ _ => true
  | .encBytesOutMinusMsb _ _ _ => true
  | .encBytesOutPlusLsb _ _ _ => true
  | .encBytesOutMinusLsb _ _ _ => true
  | .encBytesInPlusMsb _ => true
  | .encBytesInMinusMsb _ => true
  | .encBytesInPlusLsb _ => true
  | .encBytesInMinusLsb _ => true
  | .encBytesInPlusOutMinusMsb _ _ _ => true
  | .encBytesInMinusOutPlusMsb _ _ _ => true
  | .encBytesInPlusOutMinusLsb _ _ _ => true
  | .encBytesInMinusOutPlusLsb _ _ _ => true
  | .encBitsOutPlusMsb _ _ => true
  | .encBitsOutMinusMsb _ _ => true
  | .encBitsOutPlusLsb _ _ => true
  | .encBitsOutMinusLsb _ _ => true
  | .encBitsInPlusMsb _ => true
  | .encBitsInMinusMsb _ => true
  | .encBitsInPlusLsb _ => true
  | .encBitsInMinusLsb _ => true
  | .encBitsInPlusOutMinusMsb _ _ => true
  | .encBitsInMinusOutPlusMsb _ _ => true
  | .encBitsInPlusOutMinusLsb _ _ => true
  | .encBitsInMinusOutPlusLsb _ _ => true
  | .i2cInit _ _ _ _ _ _ => true
  | .i2cSetTiming _ _ _ _ _ => true
  | .i2cStart => true
  | .i2cStop => true
  | .i2cSendByte _ => true
  | .i2cSendAddress _ _ => true
  | .i2cReceiveByte _ => true
  | .i2cScan => true
  | .i2cWrite _ _ _ => true
  | .i2cRead _ _ _ => true
  | .i2cFastWrite _ _ _ => true
  | .i2cFastRead _ _ _ => true
  | .spiInit _ _ _ _ _ _ => true
  | .spiSetCsLevel _ => true
  | .spiEnable => true
  | .spiDisable => true
  | .spiWrite _ => true
  | .spiTransfer _ => true
  | .dcInit _ _ _ _ _ _ _ _ _ _ => true
  | .dcSetDcLevel _ => true
  | .dcWrite _ _ => true
  | .dcTransfer _ _ => true
  | .dcCommandStream _ => true
  | .dcResetDance => true
  | .dcResetTimed _ _ => true
  | .xpEnqueue _ => true
  | .xpExecute => true
  | .xpRead _ => true
  | .xpClearInput => true
  | .xpClearOutput => true
  | .xpSetClockDivisor _ => true
  | .xpSetLoopback _ => true

end Sys2Proof
end

