-- ==== Sys2Proof/Decode.lean ====
section
/-! DEFINITION. Decode and encode. Two decoders stand apart. `decodeRequest` reads what the request port takes: a select
code of 30_encoding.md R104, and no other byte, followed by the request's operands in the order of its rule.
`decodeCommand` reads an engine command in its wire form (R90 to R95) under the default opcode bytes of R97, the match
of its row in spec/opcode_table.json; such a word is no request (R104), it names a call of the command's function form
(40_encoder.md R120; log 3). R103 gives requests no binary form, so the operand layout is the model's own (log 1): 8-bit operands one byte, 16-bit and 32-bit ones little-endian, Bit and Bool a byte 0 or 1,
a Mode its number 0 or 2, an Order or a CsPolicy its place in 00_scope.md R16's list, a 7-bit address a byte with bit 7
zero, a natural number in groups of 7 bits, low group first, bit 7 set on every
group but the last, a byte sequence as its length and then its bytes, an absent optional operand as 0 and a
present one as its value plus 1. The decoder is total: what it does not read it rejects by name. -/

namespace Sys2Proof

/-! ## Byte order -/

/-- `lo8(v) = v[7:0]` (R13). -/
def lo8 (v : Half) : Byte := v.extractLsb' 0 8

/-- `hi8(v) = v[15:8]` (R13). -/
def hi8 (v : Half) : Byte := v.extractLsb' 8 8

/-- The 16-bit value of a low and a high byte (R68). -/
def halfOf (lo hi : Byte) : Half := hi ++ lo

/-- A 16-bit field as the block emits it: low byte first (R68). -/
def leHalf (v : Half) : Bytes := [lo8 v, hi8 v]

/-! ## Opcode bytes -/

/-- The place of a command in the catalog (R96). -/
def Cmd.index (c : Cmd) : Fin 40 :=
  match c with
  | .setClockDivisor => 0
  | .clkDiv5Disable => 1
  | .clkDiv5Enable => 2
  | .threePhaseEnable => 3
  | .threePhaseDisable => 4
  | .adaptiveEnable => 5
  | .adaptiveDisable => 6
  | .loopbackConnect => 7
  | .loopbackDisconnect => 8
  | .sendImmediate => 9
  | .waitOnHigh => 10
  | .waitOnLow => 11
  | .setDataBitsLow => 12
  | .setDataBitsHigh => 13
  | .readDataBitsLow => 14
  | .readDataBitsHigh => 15
  | .bytesOutPlusMsb => 16
  | .bytesOutMinusMsb => 17
  | .bytesOutPlusLsb => 18
  | .bytesOutMinusLsb => 19
  | .bytesInPlusMsb => 20
  | .bytesInMinusMsb => 21
  | .bytesInPlusLsb => 22
  | .bytesInMinusLsb => 23
  | .bytesInPlusOutMinusMsb => 24
  | .bytesInMinusOutPlusMsb => 25
  | .bytesInPlusOutMinusLsb => 26
  | .bytesInMinusOutPlusLsb => 27
  | .bitsOutPlusMsb => 28
  | .bitsOutMinusMsb => 29
  | .bitsOutPlusLsb => 30
  | .bitsOutMinusLsb => 31
  | .bitsInPlusMsb => 32
  | .bitsInMinusMsb => 33
  | .bitsInPlusLsb => 34
  | .bitsInMinusLsb => 35
  | .bitsInPlusOutMinusMsb => 36
  | .bitsInMinusOutPlusMsb => 37
  | .bitsInPlusOutMinusLsb => 38
  | .bitsInMinusOutPlusLsb => 39

/-- All commands, in catalog order (R96). -/
def Cmd.all : List Cmd :=
  [.setClockDivisor, .clkDiv5Disable, .clkDiv5Enable, .threePhaseEnable,
   .threePhaseDisable, .adaptiveEnable, .adaptiveDisable, .loopbackConnect,
   .loopbackDisconnect, .sendImmediate, .waitOnHigh, .waitOnLow,
   .setDataBitsLow, .setDataBitsHigh, .readDataBitsLow, .readDataBitsHigh,
   .bytesOutPlusMsb, .bytesOutMinusMsb, .bytesOutPlusLsb, .bytesOutMinusLsb,
   .bytesInPlusMsb, .bytesInMinusMsb, .bytesInPlusLsb, .bytesInMinusLsb,
   .bytesInPlusOutMinusMsb, .bytesInMinusOutPlusMsb, .bytesInPlusOutMinusLsb, .bytesInMinusOutPlusLsb,
   .bitsOutPlusMsb, .bitsOutMinusMsb, .bitsOutPlusLsb, .bitsOutMinusLsb,
   .bitsInPlusMsb, .bitsInMinusMsb, .bitsInPlusLsb, .bitsInMinusLsb,
   .bitsInPlusOutMinusMsb, .bitsInMinusOutPlusMsb, .bitsInPlusOutMinusLsb, .bitsInMinusOutPlusLsb]

/-- The operand shape of a command (R96). -/
def Cmd.format (c : Cmd) : Format :=
  match c with
  | .setClockDivisor => .D
  | .clkDiv5Disable => .N
  | .clkDiv5Enable => .N
  | .threePhaseEnable => .N
  | .threePhaseDisable => .N
  | .adaptiveEnable => .N
  | .adaptiveDisable => .N
  | .loopbackConnect => .N
  | .loopbackDisconnect => .N
  | .sendImmediate => .N
  | .waitOnHigh => .N
  | .waitOnLow => .N
  | .setDataBitsLow => .P
  | .setDataBitsHigh => .P
  | .readDataBitsLow => .N
  | .readDataBitsHigh => .N
  | .bytesOutPlusMsb => .YO
  | .bytesOutMinusMsb => .YO
  | .bytesOutPlusLsb => .YO
  | .bytesOutMinusLsb => .YO
  | .bytesInPlusMsb => .YI
  | .bytesInMinusMsb => .YI
  | .bytesInPlusLsb => .YI
  | .bytesInMinusLsb => .YI
  | .bytesInPlusOutMinusMsb => .YIO
  | .bytesInMinusOutPlusMsb => .YIO
  | .bytesInPlusOutMinusLsb => .YIO
  | .bytesInMinusOutPlusLsb => .YIO
  | .bitsOutPlusMsb => .BO
  | .bitsOutMinusMsb => .BO
  | .bitsOutPlusLsb => .BO
  | .bitsOutMinusLsb => .BO
  | .bitsInPlusMsb => .BI
  | .bitsInMinusMsb => .BI
  | .bitsInPlusLsb => .BI
  | .bitsInMinusLsb => .BI
  | .bitsInPlusOutMinusMsb => .BIO
  | .bitsInMinusOutPlusMsb => .BIO
  | .bitsInPlusOutMinusLsb => .BIO
  | .bitsInMinusOutPlusLsb => .BIO

/-- The default opcode byte of a command (R97); PRESUMED, from general knowledge (log 4). -/
def Cmd.defaultOpc (c : Cmd) : Byte :=
  match c with
  | .setClockDivisor => 0x86
  | .clkDiv5Disable => 0x8A
  | .clkDiv5Enable => 0x8B
  | .threePhaseEnable => 0x8C
  | .threePhaseDisable => 0x8D
  | .adaptiveEnable => 0x96
  | .adaptiveDisable => 0x97
  | .loopbackConnect => 0x84
  | .loopbackDisconnect => 0x85
  | .sendImmediate => 0x87
  | .waitOnHigh => 0x88
  | .waitOnLow => 0x89
  | .setDataBitsLow => 0x80
  | .setDataBitsHigh => 0x82
  | .readDataBitsLow => 0x81
  | .readDataBitsHigh => 0x83
  | .bytesOutPlusMsb => 0x10
  | .bytesOutMinusMsb => 0x11
  | .bytesOutPlusLsb => 0x18
  | .bytesOutMinusLsb => 0x19
  | .bytesInPlusMsb => 0x20
  | .bytesInMinusMsb => 0x24
  | .bytesInPlusLsb => 0x28
  | .bytesInMinusLsb => 0x2C
  | .bytesInPlusOutMinusMsb => 0x31
  | .bytesInMinusOutPlusMsb => 0x34
  | .bytesInPlusOutMinusLsb => 0x39
  | .bytesInMinusOutPlusLsb => 0x3C
  | .bitsOutPlusMsb => 0x12
  | .bitsOutMinusMsb => 0x13
  | .bitsOutPlusLsb => 0x1A
  | .bitsOutMinusLsb => 0x1B
  | .bitsInPlusMsb => 0x22
  | .bitsInMinusMsb => 0x26
  | .bitsInPlusLsb => 0x2A
  | .bitsInMinusLsb => 0x2E
  | .bitsInPlusOutMinusMsb => 0x33
  | .bitsInMinusOutPlusMsb => 0x36
  | .bitsInPlusOutMinusLsb => 0x3B
  | .bitsInMinusOutPlusLsb => 0x3E

/-- What an opcode or select byte selects: a command's function form, its ENC request, or another request. -/
inductive Op where
  | command (c : Cmd)
  | enc (c : Cmd)
  | i2cInit
  | i2cSetTiming
  | i2cStart
  | i2cStop
  | i2cSendByte
  | i2cSendAddress
  | i2cReceiveByte
  | i2cScan
  | i2cWrite
  | i2cRead
  | i2cFastWrite
  | i2cFastRead
  | spiInit
  | spiSetCsLevel
  | spiEnable
  | spiDisable
  | spiWrite
  | spiTransfer
  | dcInit
  | dcSetDcLevel
  | dcWrite
  | dcTransfer
  | dcCommandStream
  | dcResetDance
  | dcResetTimed
  | xpEnqueue
  | xpExecute
  | xpRead
  | xpClearInput
  | xpClearOutput
  | xpSetClockDivisor
  | xpSetLoopback
  deriving DecidableEq, Repr

/-- The operation is an engine command, in its function form (R120), and no request. -/
def Op.isCommand (o : Op) : Bool :=
  match o with
  | .command _ => true
  | _ => false

/-- The byte that selects an operation: R97 for a command, `0xA0 + i` for ENC request `i`, the table of R104 else. -/
def Op.code (o : Op) : Byte :=
  match o with
  | .command c => c.defaultOpc
  | .enc c => 0xA0 + BitVec.ofNat 8 c.index.val
  | .i2cInit => 0xD0
  | .i2cSetTiming => 0xD1
  | .i2cStart => 0xD2
  | .i2cStop => 0xD3
  | .i2cSendByte => 0xD4
  | .i2cSendAddress => 0xD5
  | .i2cReceiveByte => 0xD6
  | .i2cScan => 0xD7
  | .i2cWrite => 0xD8
  | .i2cRead => 0xD9
  | .i2cFastWrite => 0xDA
  | .i2cFastRead => 0xDB
  | .spiInit => 0xE0
  | .spiSetCsLevel => 0xE1
  | .spiEnable => 0xE2
  | .spiDisable => 0xE3
  | .spiWrite => 0xE4
  | .spiTransfer => 0xE5
  | .dcInit => 0xE8
  | .dcSetDcLevel => 0xE9
  | .dcWrite => 0xEA
  | .dcTransfer => 0xEB
  | .dcCommandStream => 0xEC
  | .dcResetDance => 0xED
  | .dcResetTimed => 0xEE
  | .xpEnqueue => 0xF0
  | .xpExecute => 0xF1
  | .xpRead => 0xF2
  | .xpClearInput => 0xF3
  | .xpClearOutput => 0xF4
  | .xpSetClockDivisor => 0xF5
  | .xpSetLoopback => 0xF6

/-- The requests of the I2C, SPI, DC and XP units. -/
def Op.units : List Op :=
  [.i2cInit, .i2cSetTiming, .i2cStart, .i2cStop,
   .i2cSendByte, .i2cSendAddress, .i2cReceiveByte, .i2cScan,
   .i2cWrite, .i2cRead, .i2cFastWrite, .i2cFastRead,
   .spiInit, .spiSetCsLevel, .spiEnable, .spiDisable,
   .spiWrite, .spiTransfer, .dcInit, .dcSetDcLevel,
   .dcWrite, .dcTransfer, .dcCommandStream, .dcResetDance,
   .dcResetTimed, .xpEnqueue, .xpExecute, .xpRead,
   .xpClearInput, .xpClearOutput, .xpSetClockDivisor, .xpSetLoopback]

/-- The 72 requests (R104). -/
def Op.requests : List Op := Cmd.all.map Op.enc ++ Op.units

/-- The request a select code selects, if any: every other code is reserved (R104). -/
def Op.ofCode (b : Byte) : Option Op := Op.requests.find? (fun o => o.code == b)

/-- The engine command whose default opcode a byte is, if any (R97). -/
def Cmd.ofOpcode (b : Byte) : Option Cmd := Cmd.all.find? (fun c => c.defaultOpc == b)

/-- The operation of an instruction. -/
def Instr.op (i : Instr) : Op :=
  match i with
  | .setClockDivisor _ => .command .setClockDivisor
  | .clkDiv5Disable => .command .clkDiv5Disable
  | .clkDiv5Enable => .command .clkDiv5Enable
  | .threePhaseEnable => .command .threePhaseEnable
  | .threePhaseDisable => .command .threePhaseDisable
  | .adaptiveEnable => .command .adaptiveEnable
  | .adaptiveDisable => .command .adaptiveDisable
  | .loopbackConnect => .command .loopbackConnect
  | .loopbackDisconnect => .command .loopbackDisconnect
  | .sendImmediate => .command .sendImmediate
  | .waitOnHigh => .command .waitOnHigh
  | .waitOnLow => .command .waitOnLow
  | .setDataBitsLow _ _ => .command .setDataBitsLow
  | .setDataBitsHigh _ _ => .command .setDataBitsHigh
  | .readDataBitsLow => .command .readDataBitsLow
  | .readDataBitsHigh => .command .readDataBitsHigh
  | .bytesOutPlusMsb _ _ _ => .command .bytesOutPlusMsb
  | .bytesOutMinusMsb _ _ _ => .command .bytesOutMinusMsb
  | .bytesOutPlusLsb _ _ _ => .command .bytesOutPlusLsb
  | .bytesOutMinusLsb _ _ _ => .command .bytesOutMinusLsb
  | .bytesInPlusMsb _ => .command .bytesInPlusMsb
  | .bytesInMinusMsb _ => .command .bytesInMinusMsb
  | .bytesInPlusLsb _ => .command .bytesInPlusLsb
  | .bytesInMinusLsb _ => .command .bytesInMinusLsb
  | .bytesInPlusOutMinusMsb _ _ _ => .command .bytesInPlusOutMinusMsb
  | .bytesInMinusOutPlusMsb _ _ _ => .command .bytesInMinusOutPlusMsb
  | .bytesInPlusOutMinusLsb _ _ _ => .command .bytesInPlusOutMinusLsb
  | .bytesInMinusOutPlusLsb _ _ _ => .command .bytesInMinusOutPlusLsb
  | .bitsOutPlusMsb _ _ => .command .bitsOutPlusMsb
  | .bitsOutMinusMsb _ _ => .command .bitsOutMinusMsb
  | .bitsOutPlusLsb _ _ => .command .bitsOutPlusLsb
  | .bitsOutMinusLsb _ _ => .command .bitsOutMinusLsb
  | .bitsInPlusMsb _ => .command .bitsInPlusMsb
  | .bitsInMinusMsb _ => .command .bitsInMinusMsb
  | .bitsInPlusLsb _ => .command .bitsInPlusLsb
  | .bitsInMinusLsb _ => .command .bitsInMinusLsb
  | .bitsInPlusOutMinusMsb _ _ => .command .bitsInPlusOutMinusMsb
  | .bitsInMinusOutPlusMsb _ _ => .command .bitsInMinusOutPlusMsb
  | .bitsInPlusOutMinusLsb _ _ => .command .bitsInPlusOutMinusLsb
  | .bitsInMinusOutPlusLsb _ _ => .command .bitsInMinusOutPlusLsb
  | .encSetClockDivisor _ => .enc .setClockDivisor
  | .encClkDiv5Disable => .enc .clkDiv5Disable
  | .encClkDiv5Enable => .enc .clkDiv5Enable
  | .encThreePhaseEnable => .enc .threePhaseEnable
  | .encThreePhaseDisable => .enc .threePhaseDisable
  | .encAdaptiveEnable => .enc .adaptiveEnable
  | .encAdaptiveDisable => .enc .adaptiveDisable
  | .encLoopbackConnect => .enc .loopbackConnect
  | .encLoopbackDisconnect => .enc .loopbackDisconnect
  | .encSendImmediate => .enc .sendImmediate
  | .encWaitOnHigh => .enc .waitOnHigh
  | .encWaitOnLow => .enc .waitOnLow
  | .encSetDataBitsLow _ _ => .enc .setDataBitsLow
  | .encSetDataBitsHigh _ _ => .enc .setDataBitsHigh
  | .encReadDataBitsLow => .enc .readDataBitsLow
  | .encReadDataBitsHigh => .enc .readDataBitsHigh
  | .encBytesOutPlusMsb _ _ _ => .enc .bytesOutPlusMsb
  | .encBytesOutMinusMsb _ _ _ => .enc .bytesOutMinusMsb
  | .encBytesOutPlusLsb _ _ _ => .enc .bytesOutPlusLsb
  | .encBytesOutMinusLsb _ _ _ => .enc .bytesOutMinusLsb
  | .encBytesInPlusMsb _ => .enc .bytesInPlusMsb
  | .encBytesInMinusMsb _ => .enc .bytesInMinusMsb
  | .encBytesInPlusLsb _ => .enc .bytesInPlusLsb
  | .encBytesInMinusLsb _ => .enc .bytesInMinusLsb
  | .encBytesInPlusOutMinusMsb _ _ _ => .enc .bytesInPlusOutMinusMsb
  | .encBytesInMinusOutPlusMsb _ _ _ => .enc .bytesInMinusOutPlusMsb
  | .encBytesInPlusOutMinusLsb _ _ _ => .enc .bytesInPlusOutMinusLsb
  | .encBytesInMinusOutPlusLsb _ _ _ => .enc .bytesInMinusOutPlusLsb
  | .encBitsOutPlusMsb _ _ => .enc .bitsOutPlusMsb
  | .encBitsOutMinusMsb _ _ => .enc .bitsOutMinusMsb
  | .encBitsOutPlusLsb _ _ => .enc .bitsOutPlusLsb
  | .encBitsOutMinusLsb _ _ => .enc .bitsOutMinusLsb
  | .encBitsInPlusMsb _ => .enc .bitsInPlusMsb
  | .encBitsInMinusMsb _ => .enc .bitsInMinusMsb
  | .encBitsInPlusLsb _ => .enc .bitsInPlusLsb
  | .encBitsInMinusLsb _ => .enc .bitsInMinusLsb
  | .encBitsInPlusOutMinusMsb _ _ => .enc .bitsInPlusOutMinusMsb
  | .encBitsInMinusOutPlusMsb _ _ => .enc .bitsInMinusOutPlusMsb
  | .encBitsInPlusOutMinusLsb _ _ => .enc .bitsInPlusOutMinusLsb
  | .encBitsInMinusOutPlusLsb _ _ => .enc .bitsInMinusOutPlusLsb
  | .i2cInit _ _ _ _ _ _ => .i2cInit
  | .i2cSetTiming _ _ _ _ _ => .i2cSetTiming
  | .i2cStart => .i2cStart
  | .i2cStop => .i2cStop
  | .i2cSendByte _ => .i2cSendByte
  | .i2cSendAddress _ _ => .i2cSendAddress
  | .i2cReceiveByte _ => .i2cReceiveByte
  | .i2cScan => .i2cScan
  | .i2cWrite _ _ _ => .i2cWrite
  | .i2cRead _ _ _ => .i2cRead
  | .i2cFastWrite _ _ _ => .i2cFastWrite
  | .i2cFastRead _ _ _ => .i2cFastRead
  | .spiInit _ _ _ _ _ _ => .spiInit
  | .spiSetCsLevel _ => .spiSetCsLevel
  | .spiEnable => .spiEnable
  | .spiDisable => .spiDisable
  | .spiWrite _ => .spiWrite
  | .spiTransfer _ => .spiTransfer
  | .dcInit _ _ _ _ _ _ _ _ _ _ => .dcInit
  | .dcSetDcLevel _ => .dcSetDcLevel
  | .dcWrite _ _ => .dcWrite
  | .dcTransfer _ _ => .dcTransfer
  | .dcCommandStream _ => .dcCommandStream
  | .dcResetDance => .dcResetDance
  | .dcResetTimed _ _ => .dcResetTimed
  | .xpEnqueue _ => .xpEnqueue
  | .xpExecute => .xpExecute
  | .xpRead _ => .xpRead
  | .xpClearInput => .xpClearInput
  | .xpClearOutput => .xpClearOutput
  | .xpSetClockDivisor _ => .xpSetClockDivisor
  | .xpSetLoopback _ => .xpSetLoopback

/-! ## Reading operands -/

/-- Why bytes are not an instruction. -/
inductive DecodeError where
  /-- The first byte is no select code of a request (R104, 93 U1). -/
  | reservedCode (code : Byte)
  /-- The first byte is no opcode of an engine command (R97). -/
  | unknownOpcode (opcode : Byte)
  /-- The bytes end inside the instruction. -/
  | truncated
  /-- An operand byte holds no value of its operand's type. -/
  | malformed
  deriving DecidableEq, Repr

/-- Reads operands from the front of a byte sequence and answers the instruction and the bytes after it. -/
abbrev Reader := Bytes → Except DecodeError (Instr × Bytes)

/-- All operands are read. -/
def readDone (i : Instr) : Reader := fun r => .ok (i, r)

def readByte (k : Byte → Reader) : Reader
  | [] => .error .truncated
  | b :: r => k b r

/-- A 16-bit operand, low byte first (R68). -/
def readHalf (k : Half → Reader) : Reader :=
  readByte fun lo => readByte fun hi => k (halfOf lo hi)

/-- A 32-bit operand, low byte first. -/
def readMillis (k : Millis → Reader) : Reader :=
  readHalf fun lo => readHalf fun hi => k (hi ++ lo)

def readBool (k : Bool → Reader) : Reader :=
  readByte fun b => if b = 0 then k false else if b = 1 then k true else fun _ => .error .malformed

def readBit (k : Bit → Reader) : Reader :=
  readByte fun b => if b = 0 then k .zero else if b = 1 then k .one else fun _ => .error .malformed

def readAddr7 (k : Addr7 → Reader) : Reader :=
  readByte fun b => if b < 128 then k (b.setWidth 7) else fun _ => .error .malformed

def readMode (k : Mode → Reader) : Reader :=
  readByte fun b => if b = 0 then k .mode0 else if b = 2 then k .mode2 else fun _ => .error .malformed

def readOrder (k : Order → Reader) : Reader :=
  readByte fun b => if b = 0 then k .msbFirst else if b = 1 then k .lsbFirst else fun _ => .error .malformed

def readPolicy (k : CsPolicy → Reader) : Reader :=
  readByte fun b =>
    if b = 0 then k .activeLow else if b = 1 then k .activeHigh
    else if b = 2 then k .defaultLow else if b = 3 then k .defaultHigh
    else fun _ => .error .malformed

/-- A natural number at the front of a byte sequence; a superfluous zero group is malformed. -/
def natOf : Bytes → Except DecodeError (Nat × Bytes)
  | [] => .error .truncated
  | b :: r =>
    if b < 128 then .ok (b.toNat, r)
    else match natOf r with
      | .error e => .error e
      | .ok (n, r') => if n = 0 then .error .malformed else .ok (b.toNat - 128 + 128 * n, r')

def readNat (k : Nat → Reader) : Reader := fun bs =>
  match natOf bs with
  | .error e => .error e
  | .ok (n, r) => k n r

def readOptNat (k : Option Nat → Reader) : Reader :=
  readNat fun n => match n with
    | 0 => k none
    | m + 1 => k (some m)

/-- The next `n` bytes. -/
def readTake (n : Nat) (k : Bytes → Reader) : Reader := fun bs =>
  if n ≤ bs.length then k (bs.take n) (bs.drop n) else .error .truncated

def readBytes (k : Bytes → Reader) : Reader := readNat fun n => readTake n k

/-- The byte count of the wire form: the length field holds `L - 1` (R94, R98). -/
def readWireLen (k : Nat → Reader) : Reader := readHalf fun field => k (field.toNat + 1)

/-- The payload of the wire form (R94). -/
def readWirePayload (k : Bytes → Reader) : Reader := readWireLen fun len => readTake len k

/-- The bit count of the wire form: `K - 1` in bits 2..0, bits 7..3 zero (R95, R98). -/
def readWireBits (k : Nat → Reader) : Reader :=
  readByte fun g => if g < 8 then k (g.toNat + 1) else fun _ => .error .malformed

/-- The operands of an engine command in its wire form (R91 to R95). -/
def readCommand (c : Cmd) : Reader :=
  match c with
  | .setClockDivisor => readHalf fun div => readDone (.setClockDivisor div)
  | .clkDiv5Disable => readDone .clkDiv5Disable
  | .clkDiv5Enable => readDone .clkDiv5Enable
  | .threePhaseEnable => readDone .threePhaseEnable
  | .threePhaseDisable => readDone .threePhaseDisable
  | .adaptiveEnable => readDone .adaptiveEnable
  | .adaptiveDisable => readDone .adaptiveDisable
  | .loopbackConnect => readDone .loopbackConnect
  | .loopbackDisconnect => readDone .loopbackDisconnect
  | .sendImmediate => readDone .sendImmediate
  | .waitOnHigh => readDone .waitOnHigh
  | .waitOnLow => readDone .waitOnLow
  | .setDataBitsLow => readByte fun val => readByte fun dir => readDone (.setDataBitsLow val dir)
  | .setDataBitsHigh => readByte fun val => readByte fun dir => readDone (.setDataBitsHigh val dir)
  | .readDataBitsLow => readDone .readDataBitsLow
  | .readDataBitsHigh => readDone .readDataBitsHigh
  | .bytesOutPlusMsb => readWirePayload fun payload => readDone (.bytesOutPlusMsb payload none none)
  | .bytesOutMinusMsb => readWirePayload fun payload => readDone (.bytesOutMinusMsb payload none none)
  | .bytesOutPlusLsb => readWirePayload fun payload => readDone (.bytesOutPlusLsb payload none none)
  | .bytesOutMinusLsb => readWirePayload fun payload => readDone (.bytesOutMinusLsb payload none none)
  | .bytesInPlusMsb => readWireLen fun len => readDone (.bytesInPlusMsb len)
  | .bytesInMinusMsb => readWireLen fun len => readDone (.bytesInMinusMsb len)
  | .bytesInPlusLsb => readWireLen fun len => readDone (.bytesInPlusLsb len)
  | .bytesInMinusLsb => readWireLen fun len => readDone (.bytesInMinusLsb len)
  | .bytesInPlusOutMinusMsb => readWirePayload fun payload => readDone (.bytesInPlusOutMinusMsb payload none none)
  | .bytesInMinusOutPlusMsb => readWirePayload fun payload => readDone (.bytesInMinusOutPlusMsb payload none none)
  | .bytesInPlusOutMinusLsb => readWirePayload fun payload => readDone (.bytesInPlusOutMinusLsb payload none none)
  | .bytesInMinusOutPlusLsb => readWirePayload fun payload => readDone (.bytesInMinusOutPlusLsb payload none none)
  | .bitsOutPlusMsb => readWireBits fun count => readByte fun data => readDone (.bitsOutPlusMsb data count)
  | .bitsOutMinusMsb => readWireBits fun count => readByte fun data => readDone (.bitsOutMinusMsb data count)
  | .bitsOutPlusLsb => readWireBits fun count => readByte fun data => readDone (.bitsOutPlusLsb data count)
  | .bitsOutMinusLsb => readWireBits fun count => readByte fun data => readDone (.bitsOutMinusLsb data count)
  | .bitsInPlusMsb => readWireBits fun count => readDone (.bitsInPlusMsb count)
  | .bitsInMinusMsb => readWireBits fun count => readDone (.bitsInMinusMsb count)
  | .bitsInPlusLsb => readWireBits fun count => readDone (.bitsInPlusLsb count)
  | .bitsInMinusLsb => readWireBits fun count => readDone (.bitsInMinusLsb count)
  | .bitsInPlusOutMinusMsb => readWireBits fun count => readByte fun data => readDone (.bitsInPlusOutMinusMsb data count)
  | .bitsInMinusOutPlusMsb => readWireBits fun count => readByte fun data => readDone (.bitsInMinusOutPlusMsb data count)
  | .bitsInPlusOutMinusLsb => readWireBits fun count => readByte fun data => readDone (.bitsInPlusOutMinusLsb data count)
  | .bitsInMinusOutPlusLsb => readWireBits fun count => readByte fun data => readDone (.bitsInMinusOutPlusLsb data count)

/-- The operands of an ENC request, in the order of its command's rule (R125 to R164). -/
def readEnc (c : Cmd) : Reader :=
  match c with
  | .setClockDivisor => readHalf fun div => readDone (.encSetClockDivisor div)
  | .clkDiv5Disable => readDone .encClkDiv5Disable
  | .clkDiv5Enable => readDone .encClkDiv5Enable
  | .threePhaseEnable => readDone .encThreePhaseEnable
  | .threePhaseDisable => readDone .encThreePhaseDisable
  | .adaptiveEnable => readDone .encAdaptiveEnable
  | .adaptiveDisable => readDone .encAdaptiveDisable
  | .loopbackConnect => readDone .encLoopbackConnect
  | .loopbackDisconnect => readDone .encLoopbackDisconnect
  | .sendImmediate => readDone .encSendImmediate
  | .waitOnHigh => readDone .encWaitOnHigh
  | .waitOnLow => readDone .encWaitOnLow
  | .setDataBitsLow => readByte fun val => readByte fun dir => readDone (.encSetDataBitsLow val dir)
  | .setDataBitsHigh => readByte fun val => readByte fun dir => readDone (.encSetDataBitsHigh val dir)
  | .readDataBitsLow => readDone .encReadDataBitsLow
  | .readDataBitsHigh => readDone .encReadDataBitsHigh
  | .bytesOutPlusMsb => readBytes fun payload => readOptNat fun off => readOptNat fun len => readDone (.encBytesOutPlusMsb payload off len)
  | .bytesOutMinusMsb => readBytes fun payload => readOptNat fun off => readOptNat fun len => readDone (.encBytesOutMinusMsb payload off len)
  | .bytesOutPlusLsb => readBytes fun payload => readOptNat fun off => readOptNat fun len => readDone (.encBytesOutPlusLsb payload off len)
  | .bytesOutMinusLsb => readBytes fun payload => readOptNat fun off => readOptNat fun len => readDone (.encBytesOutMinusLsb payload off len)
  | .bytesInPlusMsb => readNat fun len => readDone (.encBytesInPlusMsb len)
  | .bytesInMinusMsb => readNat fun len => readDone (.encBytesInMinusMsb len)
  | .bytesInPlusLsb => readNat fun len => readDone (.encBytesInPlusLsb len)
  | .bytesInMinusLsb => readNat fun len => readDone (.encBytesInMinusLsb len)
  | .bytesInPlusOutMinusMsb => readBytes fun payload => readOptNat fun off => readOptNat fun len => readDone (.encBytesInPlusOutMinusMsb payload off len)
  | .bytesInMinusOutPlusMsb => readBytes fun payload => readOptNat fun off => readOptNat fun len => readDone (.encBytesInMinusOutPlusMsb payload off len)
  | .bytesInPlusOutMinusLsb => readBytes fun payload => readOptNat fun off => readOptNat fun len => readDone (.encBytesInPlusOutMinusLsb payload off len)
  | .bytesInMinusOutPlusLsb => readBytes fun payload => readOptNat fun off => readOptNat fun len => readDone (.encBytesInMinusOutPlusLsb payload off len)
  | .bitsOutPlusMsb => readByte fun data => readNat fun count => readDone (.encBitsOutPlusMsb data count)
  | .bitsOutMinusMsb => readByte fun data => readNat fun count => readDone (.encBitsOutMinusMsb data count)
  | .bitsOutPlusLsb => readByte fun data => readNat fun count => readDone (.encBitsOutPlusLsb data count)
  | .bitsOutMinusLsb => readByte fun data => readNat fun count => readDone (.encBitsOutMinusLsb data count)
  | .bitsInPlusMsb => readNat fun count => readDone (.encBitsInPlusMsb count)
  | .bitsInMinusMsb => readNat fun count => readDone (.encBitsInMinusMsb count)
  | .bitsInPlusLsb => readNat fun count => readDone (.encBitsInPlusLsb count)
  | .bitsInMinusLsb => readNat fun count => readDone (.encBitsInMinusLsb count)
  | .bitsInPlusOutMinusMsb => readByte fun data => readNat fun count => readDone (.encBitsInPlusOutMinusMsb data count)
  | .bitsInMinusOutPlusMsb => readByte fun data => readNat fun count => readDone (.encBitsInMinusOutPlusMsb data count)
  | .bitsInPlusOutMinusLsb => readByte fun data => readNat fun count => readDone (.encBitsInPlusOutMinusLsb data count)
  | .bitsInMinusOutPlusLsb => readByte fun data => readNat fun count => readDone (.encBitsInMinusOutPlusLsb data count)

/-- The operands of an operation. -/
def readOperands (o : Op) : Reader :=
  match o with
  | .command c => readCommand c
  | .enc c => readEnc c
  | .i2cInit =>
    readHalf fun div => readNat fun t1 => readNat fun t2 => readNat fun t3 => readNat fun t4 =>
    readNat fun t5 => readDone (.i2cInit div t1 t2 t3 t4 t5)
  | .i2cSetTiming =>
    readNat fun t1 => readNat fun t2 => readNat fun t3 => readNat fun t4 => readNat fun t5 =>
    readDone (.i2cSetTiming t1 t2 t3 t4 t5)
  | .i2cStart => readDone .i2cStart
  | .i2cStop => readDone .i2cStop
  | .i2cSendByte => readByte fun b => readDone (.i2cSendByte b)
  | .i2cSendAddress => readAddr7 fun a7 => readBit fun rw => readDone (.i2cSendAddress a7 rw)
  | .i2cReceiveByte => readBool fun a => readDone (.i2cReceiveByte a)
  | .i2cScan => readDone .i2cScan
  | .i2cWrite => readAddr7 fun a7 => readByte fun reg => readBytes fun data => readDone (.i2cWrite a7 reg data)
  | .i2cRead => readAddr7 fun a7 => readByte fun reg => readNat fun n => readDone (.i2cRead a7 reg n)
  | .i2cFastWrite =>
    readAddr7 fun a7 => readByte fun reg => readBytes fun data => readDone (.i2cFastWrite a7 reg data)
  | .i2cFastRead => readAddr7 fun a7 => readByte fun reg => readNat fun n => readDone (.i2cFastRead a7 reg n)
  | .spiInit =>
    readMode fun mode => readOrder fun order => readByte fun csPin => readPolicy fun policy =>
    readByte fun lowVal => readByte fun lowDir => readDone (.spiInit mode order csPin policy lowVal lowDir)
  | .spiSetCsLevel => readBit fun level => readDone (.spiSetCsLevel level)
  | .spiEnable => readDone .spiEnable
  | .spiDisable => readDone .spiDisable
  | .spiWrite => readBytes fun payload => readDone (.spiWrite payload)
  | .spiTransfer => readBytes fun payload => readDone (.spiTransfer payload)
  | .dcInit =>
    readMode fun mode => readOrder fun order => readByte fun csPin => readPolicy fun policy =>
    readByte fun lowVal => readByte fun lowDir => readByte fun dcPin => readByte fun rstPin =>
    readByte fun highVal => readByte fun highDir =>
    readDone (.dcInit mode order csPin policy lowVal lowDir dcPin rstPin highVal highDir)
  | .dcSetDcLevel => readBool fun isCommand => readDone (.dcSetDcLevel isCommand)
  | .dcWrite => readBytes fun payload => readBool fun isCommand => readDone (.dcWrite payload isCommand)
  | .dcTransfer => readBytes fun payload => readBool fun isCommand => readDone (.dcTransfer payload isCommand)
  | .dcCommandStream => readBytes fun buf => readDone (.dcCommandStream buf)
  | .dcResetDance => readDone .dcResetDance
  | .dcResetTimed => readMillis fun ms1 => readMillis fun ms2 => readDone (.dcResetTimed ms1 ms2)
  | .xpEnqueue => readBytes fun bytes => readDone (.xpEnqueue bytes)
  | .xpExecute => readDone .xpExecute
  | .xpRead => readNat fun n => readDone (.xpRead n)
  | .xpClearInput => readDone .xpClearInput
  | .xpClearOutput => readDone .xpClearOutput
  | .xpSetClockDivisor => readHalf fun d => readDone (.xpSetClockDivisor d)
  | .xpSetLoopback => readBool fun b => readDone (.xpSetLoopback b)

/-- Reads one request from the front of a byte sequence: its select code, then its operands (R103, R104). -/
def decodeRequest (bs : Bytes) : Except DecodeError (Instr × Bytes) :=
  match bs with
  | [] => .error .truncated
  | b :: r =>
    match Op.ofCode b with
    | none => .error (.reservedCode b)
    | some o => readOperands o r

/-- Reads one engine command from the front of a byte sequence: its opcode, then its operands (R90 to R95, R97). -/
def decodeCommand (bs : Bytes) : Except DecodeError (Instr × Bytes) :=
  match bs with
  | [] => .error .truncated
  | b :: r =>
    match Cmd.ofOpcode b with
    | none => .error (.unknownOpcode b)
    | some c => readCommand c r

/-! ## Writing -/

def putBool (b : Bool) : Bytes := [if b then 1 else 0]

def putBit (b : Bit) : Bytes :=
  match b with
  | .zero => [0]
  | .one => [1]

def putAddr7 (a : Addr7) : Bytes := [a.setWidth 8]

def putMode (m : Mode) : Bytes :=
  match m with
  | .mode0 => [0]
  | .mode2 => [2]

def putOrder (o : Order) : Bytes :=
  match o with
  | .msbFirst => [0]
  | .lsbFirst => [1]

def putPolicy (p : CsPolicy) : Bytes :=
  match p with
  | .activeLow => [0]
  | .activeHigh => [1]
  | .defaultLow => [2]
  | .defaultHigh => [3]

def putMillis (ms : Millis) : Bytes := leHalf (ms.extractLsb' 0 16) ++ leHalf (ms.extractLsb' 16 16)

/-- A natural number in groups of 7 bits; the first argument bounds the number of groups. -/
def putNatGroups : Nat → Nat → Bytes
  | 0, n => [BitVec.ofNat 8 n]
  | fuel + 1, n =>
    if n < 128 then [BitVec.ofNat 8 n] else BitVec.ofNat 8 (n % 128 + 128) :: putNatGroups fuel (n / 128)

def putNat (n : Nat) : Bytes := putNatGroups n n

def putOptNat (o : Option Nat) : Bytes :=
  match o with
  | none => putNat 0
  | some n => putNat (n + 1)

def putBytes (bs : Bytes) : Bytes := putNat bs.length ++ bs

/-- The length field of a byte transfer, `L - 1` little-endian (R94, R98). -/
def wireLen (len : Nat) : Bytes := leHalf (BitVec.ofNat 16 (len - 1))

/-- The length byte of a bit transfer, `K - 1` (R95, R98). -/
def wireBits (count : Nat) : Bytes := [BitVec.ofNat 8 (count - 1)]

/-- The bytes after the opcode or select byte. -/
def putOperands (i : Instr) : Bytes :=
  match i with
  | .setClockDivisor div => leHalf div
  | .clkDiv5Disable => []
  | .clkDiv5Enable => []
  | .threePhaseEnable => []
  | .threePhaseDisable => []
  | .adaptiveEnable => []
  | .adaptiveDisable => []
  | .loopbackConnect => []
  | .loopbackDisconnect => []
  | .sendImmediate => []
  | .waitOnHigh => []
  | .waitOnLow => []
  | .setDataBitsLow val dir => [val, dir]
  | .setDataBitsHigh val dir => [val, dir]
  | .readDataBitsLow => []
  | .readDataBitsHigh => []
  | .bytesOutPlusMsb payload _ _ => wireLen payload.length ++ payload
  | .bytesOutMinusMsb payload _ _ => wireLen payload.length ++ payload
  | .bytesOutPlusLsb payload _ _ => wireLen payload.length ++ payload
  | .bytesOutMinusLsb payload _ _ => wireLen payload.length ++ payload
  | .bytesInPlusMsb len => wireLen len
  | .bytesInMinusMsb len => wireLen len
  | .bytesInPlusLsb len => wireLen len
  | .bytesInMinusLsb len => wireLen len
  | .bytesInPlusOutMinusMsb payload _ _ => wireLen payload.length ++ payload
  | .bytesInMinusOutPlusMsb payload _ _ => wireLen payload.length ++ payload
  | .bytesInPlusOutMinusLsb payload _ _ => wireLen payload.length ++ payload
  | .bytesInMinusOutPlusLsb payload _ _ => wireLen payload.length ++ payload
  | .bitsOutPlusMsb data count => wireBits count ++ [data]
  | .bitsOutMinusMsb data count => wireBits count ++ [data]
  | .bitsOutPlusLsb data count => wireBits count ++ [data]
  | .bitsOutMinusLsb data count => wireBits count ++ [data]
  | .bitsInPlusMsb count => wireBits count
  | .bitsInMinusMsb count => wireBits count
  | .bitsInPlusLsb count => wireBits count
  | .bitsInMinusLsb count => wireBits count
  | .bitsInPlusOutMinusMsb data count => wireBits count ++ [data]
  | .bitsInMinusOutPlusMsb data count => wireBits count ++ [data]
  | .bitsInPlusOutMinusLsb data count => wireBits count ++ [data]
  | .bitsInMinusOutPlusLsb data count => wireBits count ++ [data]
  | .encSetClockDivisor div => leHalf div
  | .encClkDiv5Disable => []
  | .encClkDiv5Enable => []
  | .encThreePhaseEnable => []
  | .encThreePhaseDisable => []
  | .encAdaptiveEnable => []
  | .encAdaptiveDisable => []
  | .encLoopbackConnect => []
  | .encLoopbackDisconnect => []
  | .encSendImmediate => []
  | .encWaitOnHigh => []
  | .encWaitOnLow => []
  | .encSetDataBitsLow val dir => [val, dir]
  | .encSetDataBitsHigh val dir => [val, dir]
  | .encReadDataBitsLow => []
  | .encReadDataBitsHigh => []
  | .encBytesOutPlusMsb payload off len => putBytes payload ++ putOptNat off ++ putOptNat len
  | .encBytesOutMinusMsb payload off len => putBytes payload ++ putOptNat off ++ putOptNat len
  | .encBytesOutPlusLsb payload off len => putBytes payload ++ putOptNat off ++ putOptNat len
  | .encBytesOutMinusLsb payload off len => putBytes payload ++ putOptNat off ++ putOptNat len
  | .encBytesInPlusMsb len => putNat len
  | .encBytesInMinusMsb len => putNat len
  | .encBytesInPlusLsb len => putNat len
  | .encBytesInMinusLsb len => putNat len
  | .encBytesInPlusOutMinusMsb payload off len => putBytes payload ++ putOptNat off ++ putOptNat len
  | .encBytesInMinusOutPlusMsb payload off len => putBytes payload ++ putOptNat off ++ putOptNat len
  | .encBytesInPlusOutMinusLsb payload off len => putBytes payload ++ putOptNat off ++ putOptNat len
  | .encBytesInMinusOutPlusLsb payload off len => putBytes payload ++ putOptNat off ++ putOptNat len
  | .encBitsOutPlusMsb data count => [data] ++ putNat count
  | .encBitsOutMinusMsb data count => [data] ++ putNat count
  | .encBitsOutPlusLsb data count => [data] ++ putNat count
  | .encBitsOutMinusLsb data count => [data] ++ putNat count
  | .encBitsInPlusMsb count => putNat count
  | .encBitsInMinusMsb count => putNat count
  | .encBitsInPlusLsb count => putNat count
  | .encBitsInMinusLsb count => putNat count
  | .encBitsInPlusOutMinusMsb data count => [data] ++ putNat count
  | .encBitsInMinusOutPlusMsb data count => [data] ++ putNat count
  | .encBitsInPlusOutMinusLsb data count => [data] ++ putNat count
  | .encBitsInMinusOutPlusLsb data count => [data] ++ putNat count
  | .i2cInit div t1 t2 t3 t4 t5 => leHalf div ++ putNat t1 ++ putNat t2 ++ putNat t3 ++ putNat t4 ++ putNat t5
  | .i2cSetTiming t1 t2 t3 t4 t5 => putNat t1 ++ putNat t2 ++ putNat t3 ++ putNat t4 ++ putNat t5
  | .i2cStart => []
  | .i2cStop => []
  | .i2cSendByte b => [b]
  | .i2cSendAddress a7 rw => putAddr7 a7 ++ putBit rw
  | .i2cReceiveByte a => putBool a
  | .i2cScan => []
  | .i2cWrite a7 reg data => putAddr7 a7 ++ [reg] ++ putBytes data
  | .i2cRead a7 reg n => putAddr7 a7 ++ [reg] ++ putNat n
  | .i2cFastWrite a7 reg data => putAddr7 a7 ++ [reg] ++ putBytes data
  | .i2cFastRead a7 reg n => putAddr7 a7 ++ [reg] ++ putNat n
  | .spiInit mode order csPin policy lowVal lowDir =>
    putMode mode ++ putOrder order ++ [csPin] ++ putPolicy policy ++ [lowVal] ++ [lowDir]
  | .spiSetCsLevel level => putBit level
  | .spiEnable => []
  | .spiDisable => []
  | .spiWrite payload => putBytes payload
  | .spiTransfer payload => putBytes payload
  | .dcInit mode order csPin policy lowVal lowDir dcPin rstPin highVal highDir =>
    putMode mode ++ putOrder order ++ [csPin] ++ putPolicy policy ++
    [lowVal] ++ [lowDir] ++ [dcPin] ++ [rstPin] ++ [highVal] ++ [highDir]
  | .dcSetDcLevel isCommand => putBool isCommand
  | .dcWrite payload isCommand => putBytes payload ++ putBool isCommand
  | .dcTransfer payload isCommand => putBytes payload ++ putBool isCommand
  | .dcCommandStream buf => putBytes buf
  | .dcResetDance => []
  | .dcResetTimed ms1 ms2 => putMillis ms1 ++ putMillis ms2
  | .xpEnqueue bytes => putBytes bytes
  | .xpExecute => []
  | .xpRead n => putNat n
  | .xpClearInput => []
  | .xpClearOutput => []
  | .xpSetClockDivisor d => leHalf d
  | .xpSetLoopback b => putBool b

/-- The bytes of an instruction. -/
def encode (i : Instr) : Bytes := i.op.code :: putOperands i

/-! ## Words of the opcode table -/

/-- The low `n` bytes of a number, least significant first. -/
def leBytes : Nat → Nat → Bytes
  | 0, _ => []
  | n + 1, w => BitVec.ofNat 8 w :: leBytes n (w / 256)

/-- An instruction word of the opcode table, `nbits` bits numbered as the table numbers them, with zero bytes after it. -/
def tableBytes (nbits w : Nat) : Bytes := leBytes (nbits / 8) w ++ List.replicate 16 0

/-- The bytes begin with the default opcode of an engine command; no select code is one (R103). -/
def isCommandWord (bs : Bytes) : Bool :=
  match bs with
  | [] => false
  | b :: _ => (Cmd.ofOpcode b).isSome

/-- The instruction that a word of the opcode table stands for: an engine command or a request, as its first byte says. -/
def decodeTableWord (nbits w : Nat) : Option Instr :=
  match (if isCommandWord (tableBytes nbits w) then decodeCommand (tableBytes nbits w)
    else decodeRequest (tableBytes nbits w)) with
  | .ok (i, _) => some i
  | .error _ => none

end Sys2Proof
end

