-- ==== Sys2Proof/Config.lean ====
section
/-! DEFINITION. Config: the parameters the spec leaves to the implementation (00_scope.md R9 to R12, R45), with their
default tables, and the free values: what the environment answers when nothing in the state says it (20_memory.md R66).
The parameters are plain data that a state carries and no step writes, so a statement about every state is a statement
about every parameter setting (log 4). A free value has no body: nothing can be proved of it (log 8, 9, 10). -/

namespace Sys2Proof

/-- The five held states of the two I2C lines (R181): both released, both high, clock high and data low, both low,
clock low and data released. -/
inductive LineState where
  | idle
  | hh
  | chDl
  | ll
  | clDr
  deriving DecidableEq, Repr

/-- The value and direction byte of a low-byte pin-set command (R182). -/
structure LinePins where
  val : Byte
  dir : Byte
  deriving DecidableEq, Repr

/-- `I2C_LINE[ls]` (R182). -/
structure LineTable where
  idle : LinePins
  hh : LinePins
  chDl : LinePins
  ll : LinePins
  clDr : LinePins
  deriving DecidableEq, Repr

/-- The pins of a line state (R182). -/
def LineTable.pins (t : LineTable) (ls : LineState) : LinePins :=
  match ls with
  | .idle => t.idle
  | .hh => t.hh
  | .chDl => t.chDl
  | .ll => t.ll
  | .clDr => t.clDr

/-- The parameters of R12 and R45. The five timing constants are operands of I2C.Init, not parameters (R32). -/
structure Params where
  /-- `OPC[name]`, by catalog place (R9). -/
  opc : Vector Byte 40
  /-- `PIN_CLK`, `PIN_DO`, `PIN_DI` (R10). -/
  pinClk : Byte
  pinDo : Byte
  pinDi : Byte
  /-- `I2C_LINE` (R182). -/
  line : LineTable
  /-- `RST_ACTIVE_LEVEL` (R264). -/
  rstActive : Bit
  /-- `P_I2C_SEND_IMMEDIATE` (R183). -/
  sendImmediate : Bool
  /-- `P_I2C_CHECK_DATA_ACK` (R200). -/
  checkDataAck : Bool
  deriving DecidableEq, Repr

/-- `OPC[name]` (R9). -/
def Params.opcOf (p : Params) (c : Cmd) : Byte := p.opc.get c.index

/-- The default opcode table (R97); PRESUMED, general knowledge, unsafe (log 4). -/
def Params.defaultOpcTable : Vector Byte 40 :=
  #v[Cmd.setClockDivisor.defaultOpc, Cmd.clkDiv5Disable.defaultOpc, Cmd.clkDiv5Enable.defaultOpc,
     Cmd.threePhaseEnable.defaultOpc, Cmd.threePhaseDisable.defaultOpc, Cmd.adaptiveEnable.defaultOpc,
     Cmd.adaptiveDisable.defaultOpc, Cmd.loopbackConnect.defaultOpc, Cmd.loopbackDisconnect.defaultOpc,
     Cmd.sendImmediate.defaultOpc, Cmd.waitOnHigh.defaultOpc, Cmd.waitOnLow.defaultOpc,
     Cmd.setDataBitsLow.defaultOpc, Cmd.setDataBitsHigh.defaultOpc, Cmd.readDataBitsLow.defaultOpc,
     Cmd.readDataBitsHigh.defaultOpc, Cmd.bytesOutPlusMsb.defaultOpc, Cmd.bytesOutMinusMsb.defaultOpc,
     Cmd.bytesOutPlusLsb.defaultOpc, Cmd.bytesOutMinusLsb.defaultOpc, Cmd.bytesInPlusMsb.defaultOpc,
     Cmd.bytesInMinusMsb.defaultOpc, Cmd.bytesInPlusLsb.defaultOpc, Cmd.bytesInMinusLsb.defaultOpc,
     Cmd.bytesInPlusOutMinusMsb.defaultOpc, Cmd.bytesInMinusOutPlusMsb.defaultOpc,
     Cmd.bytesInPlusOutMinusLsb.defaultOpc, Cmd.bytesInMinusOutPlusLsb.defaultOpc,
     Cmd.bitsOutPlusMsb.defaultOpc, Cmd.bitsOutMinusMsb.defaultOpc, Cmd.bitsOutPlusLsb.defaultOpc,
     Cmd.bitsOutMinusLsb.defaultOpc, Cmd.bitsInPlusMsb.defaultOpc, Cmd.bitsInMinusMsb.defaultOpc,
     Cmd.bitsInPlusLsb.defaultOpc, Cmd.bitsInMinusLsb.defaultOpc, Cmd.bitsInPlusOutMinusMsb.defaultOpc,
     Cmd.bitsInMinusOutPlusMsb.defaultOpc, Cmd.bitsInPlusOutMinusLsb.defaultOpc,
     Cmd.bitsInMinusOutPlusLsb.defaultOpc]

/-- The default parameters: R97; R10 (PRESUMED, log 5); R182 (DESIGN CHOICE of the spec, log 6); R12 (log 7). -/
def Params.default : Params where
  opc := Params.defaultOpcTable
  pinClk := 0x01
  pinDo := 0x02
  pinDi := 0x04
  line :=
    { idle := ⟨0x00, 0x00⟩, hh := ⟨0x00, 0x00⟩, chDl := ⟨0x00, 0x02⟩, ll := ⟨0x00, 0x03⟩, clDr := ⟨0x00, 0x01⟩ }
  rstActive := .zero
  sendImmediate := true
  checkDataAck := true

/-- Exactly one bit of a mask is set (R10). -/
def oneHot (m : Byte) : Bool :=
  m == 0x01 || m == 0x02 || m == 0x04 || m == 0x08 || m == 0x10 || m == 0x20 || m == 0x40 || m == 0x80

/-- `OPC` is injective (R9); the pin masks are one-hot (R10) and name three lines (DEDUCED, log 5); the line table obeys
the constraint of R182. -/
def Params.legal (p : Params) : Bool :=
  decide p.opc.toList.Nodup &&
  oneHot p.pinClk && oneHot p.pinDo && oneHot p.pinDi &&
  p.pinClk != p.pinDo && p.pinClk != p.pinDi && p.pinDo != p.pinDi &&
  p.line.ll.dir &&& p.pinClk == p.pinClk && p.line.clDr.dir &&& p.pinClk == p.pinClk &&
  p.line.ll.dir &&& p.pinDo == p.pinDo && p.line.clDr.dir &&& p.pinDo == 0 &&
  p.line.idle.dir &&& p.pinDi == 0 && p.line.hh.dir &&& p.pinDi == 0 && p.line.chDl.dir &&& p.pinDi == 0 &&
  p.line.ll.dir &&& p.pinDi == 0 && p.line.clDr.dir &&& p.pinDi == 0

/-! ## Free values

Each takes the number of transport calls answered so far and the history it may depend on: the delivered bytes and the
bytes awaiting the flush (R66: an oracle over `WIRE`). -/

/-- Whether the transport call succeeds (R66, 93 U8). Free. -/
opaque Config.callOk : Nat → Bytes → Bool

/-- The bytes of an answer whose number the spec does not fix: `CB` after a failed flush, `RXQ` after a failed read
(93 U6), what arrives when the delivered bytes are not whole engine commands (93 U12). Free. -/
opaque Config.callBytes : Nat → Bytes → Bytes

/-- The value of the response byte at a place of an answer (R66, 93 U7). Free. -/
opaque Config.responseByte : Nat → Bytes → Nat → Byte

end Sys2Proof
end

