-- ==== Sys2Proof/Machine/State.lean ====
section
/-! DEFINITION. State: every register of 10_state.md R23 and R46, and the model's own fields (the parameters, the
request port, the response, the environment's answers, the record of delays), as plain data. Fault, Refusal, the
response of a request (60_exceptions.md R300, R301), and the state after reset (70_reset_and_hazards.md R330, R331). -/

namespace Sys2Proof.Machine

/-- The I2C transaction state (R30). -/
inductive Fsm where
  | idle
  | started
  | byteOut
  | byteIn
  | stopped
  deriving DecidableEq, Repr

/-- The three error kinds (R302 to R304); a ProtocolNack records the index of the unacknowledged byte-out. -/
inductive Error where
  | invalidArgument
  | protocolNack (k : Nat)
  | transportFailure
  deriving DecidableEq, Repr

/-- The result of a request that ends with status OK (R300): none, an acknowledgment or other Bool, one byte, a byte
sequence, or a list of 7-bit addresses. -/
inductive Result where
  | unit
  | bool (b : Bool)
  | byte (b : Byte)
  | bytes (bs : Bytes)
  | addresses (as : List Addr7)
  deriving DecidableEq, Repr

/-- What the block answered to the last request: nothing yet, OK with a result, or an error (R300). It is the response
port, not a register: no rule reads it (R306, log 12). -/
inductive Response where
  | awaiting
  | ok (r : Result)
  | error (e : Error)
  deriving DecidableEq, Repr

/-- One answer of the environment to a transport call (R66): whether it succeeds, and bytes. On a flush that succeeds
the bytes are the values of the response bytes, in order; on a flush that fails, what `CB` holds afterwards; on a read
that fails, what `RXQ` holds afterwards (93 U6). -/
structure Answer where
  ok : Bool
  bytes : Bytes
  deriving DecidableEq, Repr

/-- Interface state (R25 to R28): `CB`, `RXQ`, `WIRE`, `XP_CLKDIV`, `XP_LOOPBACK`. -/
structure Xp where
  cb : Bytes
  rxq : Bytes
  wire : Bytes
  clkdiv : Half
  loopback : Bool
  deriving DecidableEq, Repr

/-- The I2C unit (R29 to R32): `I2C_READY`, `I2C_FSM`, `I2C_CLKDIV`, `T_START_1`, `T_START_2`, `T_STOP_1`, `T_STOP_2`,
`T_STOP_3`. -/
structure I2c where
  ready : Bool
  fsm : Fsm
  clkdiv : Half
  tStart1 : Byte
  tStart2 : Byte
  tStop1 : Byte
  tStop2 : Byte
  tStop3 : Byte
  deriving DecidableEq, Repr

/-- The SPI unit (R33 to R39): `SPI_READY`, `CS_PIN`, `SPI_MODE`, `SPI_ORDER`, `CS_POLICY`, `CS_LEVEL`, `LOW_VAL`,
`LOW_DIR`. -/
structure Spi where
  ready : Bool
  csPin : Byte
  mode : Mode
  order : Order
  policy : CsPolicy
  csLevel : Bit
  lowVal : Byte
  lowDir : Byte
  deriving DecidableEq, Repr

/-- The DC capability (R40 to R44): `DC_PRESENT`, `DC_PIN`, `RST_PIN`, `DC_LEVEL`, `HIGH_VAL`, `HIGH_DIR`. -/
structure Dc where
  present : Bool
  dcPin : Byte
  rstPin : Byte
  dcLevel : Bit
  highVal : Byte
  highDir : Byte
  deriving DecidableEq, Repr

/-- The machine. `xp`, `i2c`, `spi` and `dc` are the state of R23; the other fields are the model's own. -/
structure State where
  /-- The parameters (R45); no step writes them (log 4). -/
  params : Params
  /-- The request port: the bytes of the requests presented and not yet accepted (R8, log 2). -/
  port : Bytes
  /-- The function interface of ENC: the words of the engine commands whose pure function `enc_Name` is called and not
  yet answered (R120, R122, log 3). -/
  encPort : Bytes
  /-- The status and result of the last request (R300, log 12). -/
  resp : Response
  /-- The environment's next answers; past their end the answers are free (R66, log 8). -/
  script : List Answer
  /-- How many transport calls have been answered: the counter of the free answers (log 8). -/
  calls : Nat
  /-- The `delay(ms)` calls made, in order: a record, like `WIRE` (R276, log 13). -/
  waited : List Millis
  xp : Xp
  i2c : I2c
  spi : Spi
  dc : Dc
  deriving DecidableEq, Repr

/-- Reasons for the machine to stop with a fault. -/
inductive Fault where
  /-- Raised by nothing: "Nothing in the block is `stuck`" (93_implementation_defined.md, part 1); errors are statuses
  of a request (R300). Safe: no step ends in it (log 17). -/
  | stuck
  deriving DecidableEq, Repr

/-- Reasons for a request to have no meaning. Every one of them is safe: nothing can be proved of what follows. -/
inductive Refusal where
  /-- Raised by `step`: the request's select code is reserved (R104, 93 U1). Safe. -/
  | reservedCode (code : Byte)
  /-- Raised by `step`: the function interface is called with a byte that is no engine command's opcode (R97, log 3).
  Safe. -/
  | unknownOpcode (opcode : Byte)
  /-- Raised by `step`: the bytes at a port end inside a request or command (log 1). Safe. -/
  | truncatedRequest
  /-- Raised by `step`: an operand byte at a port holds no value of its operand's type (log 1). Safe. -/
  | malformedOperand
  /-- Raised by every I2C request but I2C.Init while `I2C_READY` is false (R207, R333, 93 U2). Safe. -/
  | i2cNotReady
  /-- Raised by an I2C request that R184 does not allow in the present `I2C_FSM` state (R207, 93 U2). Safe. -/
  | i2cOutOfSequence (fsm : Fsm)
  /-- Raised by every SPI and DC request but the Inits while `SPI_READY` is false (R248, R280, R333, 93 U2). Safe. -/
  | spiNotReady
  /-- Raised by every DC request but DC.Init while `DC_PRESENT` is false (R280, R333, 93 U2). Safe. -/
  | dcAbsent
  /-- Raised by `exec` for an instruction that has no meaning yet. Safe. -/
  | notModelled (mnemonic : String)
  deriving DecidableEq, Repr

/-- The interface state at launch: the premises `CB = []`, `RXQ = []`, and `WIRE = []` (R331, log 19); the transport's
two settings, which R28 leaves unspecified, at zero and false (DESIGN CHOICE, unsafe, log 14). -/
def Xp.reset : Xp where
  cb := []
  rxq := []
  wire := []
  clkdiv := 0
  loopback := false

/-- The I2C unit at reset: not ready, Idle (R29, R30); `I2C_CLKDIV` at zero and the five counts at the suggested 4
(DESIGN CHOICE, unsafe, log 14, log 15). -/
def I2c.reset : I2c where
  ready := false
  fsm := .idle
  clkdiv := 0
  tStart1 := 4
  tStart2 := 4
  tStop1 := 4
  tStop2 := 4
  tStop3 := 4

/-- The SPI unit at reset: not ready (R33); the other registers, which R34 to R39 leave unspecified, at zero or at the
first value of their type (DESIGN CHOICE, unsafe, log 14). -/
def Spi.reset : Spi where
  ready := false
  csPin := 0
  mode := .mode0
  order := .msbFirst
  policy := .activeLow
  csLevel := .zero
  lowVal := 0
  lowDir := 0

/-- The DC capability at reset: absent (R40); the other registers, which R41 to R44 leave unspecified, at zero
(DESIGN CHOICE, unsafe, log 14). -/
def Dc.reset : Dc where
  present := false
  dcPin := 0
  rstPin := 0
  dcLevel := .zero
  highVal := 0
  highDir := 0

/-- The machine right after reset (R330, R331): no request presented, no function called, nothing answered, the default parameters. -/
def State.reset : State where
  params := Params.default
  port := []
  encPort := []
  resp := .awaiting
  script := []
  calls := 0
  waited := []
  xp := Xp.reset
  i2c := I2c.reset
  spi := Spi.reset
  dc := Dc.reset

end Sys2Proof.Machine
end

