-- ==== Sys2Proof/Machine/Engine.lean ====
section
/-! DEFINITION. The engine behind the transport, as far as the spec gives it: it executes the delivered bytes in order
(20_memory.md R70), the length of each command is known from its opcode and length field (30_encoding.md R99), and a
command produces a fixed number of response bytes (40_encoder.md R123). A `Scan` reads a byte stream as the engine
does and counts the response bytes; a stream it cannot split is lost for good (log 10). -/

namespace Sys2Proof.Machine

/-- The command whose opcode a byte is, if any (R99). -/
def cmdOfByte (p : Params) (b : Byte) : Option Cmd := Cmd.all.find? (fun c => p.opcOf c == b)

/-- `resp(cmd)` of R123 for a command that moves `len` bytes; `len` counts only for the byte-transfer formats. The 1 for
`BI` with more than one bit and for `BIO` is PRESUMED (log 10). -/
def respCount (c : Cmd) (len : Nat) : Nat :=
  match c.format with
  | .N => if c = .readDataBitsLow ∨ c = .readDataBitsHigh then 1 else 0
  | .P => 0
  | .D => 0
  | .YO => 0
  | .YI => len
  | .YIO => len
  | .BO => 0
  | .BI => 1
  | .BIO => 1

/-- Where in a command the stream stands. -/
inductive ScanPos where
  /-- At an opcode. -/
  | start
  /-- Before `left + 1` bytes that complete a command which produces `resp` response bytes. -/
  | body (resp left : Nat)
  /-- Before the length byte of a bit transfer. -/
  | bitLen (c : Cmd)
  /-- Before the low length byte of a byte transfer. -/
  | lenLo (c : Cmd)
  /-- Before the high length byte of a byte transfer. -/
  | lenHi (c : Cmd) (lo : Byte)
  /-- The stream cannot be split into commands. -/
  | lost
  deriving DecidableEq, Repr

/-- A place in the stream and the response bytes of the whole commands before it. -/
structure Scan where
  pos : ScanPos
  total : Nat
  deriving DecidableEq, Repr

/-- After the opcode of `c`. -/
def Scan.opcode (total : Nat) (c : Cmd) : Scan :=
  match c.format with
  | .N => ⟨.start, total + respCount c 0⟩
  | .P => ⟨.body (respCount c 0) 1, total⟩
  | .D => ⟨.body (respCount c 0) 1, total⟩
  | .YO => ⟨.lenLo c, total⟩
  | .YI => ⟨.lenLo c, total⟩
  | .YIO => ⟨.lenLo c, total⟩
  | .BO => ⟨.bitLen c, total⟩
  | .BI => ⟨.bitLen c, total⟩
  | .BIO => ⟨.bitLen c, total⟩

/-- After the length field of the byte transfer `c`, which moves `len` bytes (R94, R98). -/
def Scan.byteLength (total : Nat) (c : Cmd) (len : Nat) : Scan :=
  match c.format with
  | .YI => ⟨.start, total + respCount c len⟩
  | _ => ⟨.body (respCount c len) (len - 1), total⟩

/-- After the length byte of the bit transfer `c` (R95); a byte above 7 is no length (93 U5). -/
def Scan.bitLength (total : Nat) (c : Cmd) (b : Byte) : Scan :=
  if b < 8 then
    match c.format with
    | .BI => ⟨.start, total + respCount c 0⟩
    | _ => ⟨.body (respCount c 0) 0, total⟩
  else ⟨.lost, total⟩

/-- One byte further (R99). -/
def Scan.byte (p : Params) (sc : Scan) (b : Byte) : Scan :=
  match sc.pos with
  | .start =>
    match cmdOfByte p b with
    | none => ⟨.lost, sc.total⟩
    | some c => Scan.opcode sc.total c
  | .body resp 0 => ⟨.start, sc.total + resp⟩
  | .body resp (left + 1) => ⟨.body resp left, sc.total⟩
  | .bitLen c => Scan.bitLength sc.total c b
  | .lenLo c => ⟨.lenHi c b, sc.total⟩
  | .lenHi c lo => Scan.byteLength sc.total c ((halfOf lo b).toNat + 1)
  | .lost => ⟨.lost, sc.total⟩

/-- The stream read from a place on. -/
def Scan.bytes (p : Params) (sc : Scan) (bs : Bytes) : Scan := bs.foldl (Scan.byte p) sc

/-- The number of response bytes the commands of a stream produce, if the stream is a run of whole commands. -/
def responseTotal (p : Params) (stream : Bytes) : Option Nat :=
  let sc := Scan.bytes p ⟨.start, 0⟩ stream
  if sc.pos = .start then some sc.total else none

/-- `n` response bytes whose values are those given, and free ones (`f` at their place) where none is given. -/
def supply (f : Nat → Byte) : Nat → Nat → Bytes → Bytes
  | 0, _, _ => []
  | n + 1, k, [] => f k :: supply f n (k + 1) []
  | n + 1, k, b :: bs => b :: supply f n (k + 1) bs

end Sys2Proof.Machine
end

