-- ==== Sys2Proof/Machine/Ops.lean ====
section
/-! DEFINITION. The named operations: the transport port (20_memory.md R61 to R67), the running of a request's steps and
the raising of an error (00_scope.md R15, 60_exceptions.md R300), and the refusal conditions that come first (R305). -/

namespace Sys2Proof.Machine

/-- What one step answers. -/
abbrev Out := Host.Outcome State Fault Refusal

/-! ## Register writes -/

/-- `enqueue(bytes)`: `CB <- CB ++ bytes` (R62). -/
def State.enqueue (s : State) (bs : Bytes) : State := { s with xp.cb := s.xp.cb ++ bs }

/-- `I2C_FSM <- f` (R15). -/
def State.setFsm (s : State) (f : Fsm) : State := { s with i2c.fsm := f }

/-- `I2C_READY <- b` (R29). -/
def State.setI2cReady (s : State) (b : Bool) : State := { s with i2c.ready := b }

/-- `I2C_CLKDIV <- d` (R31). -/
def State.setI2cClkdiv (s : State) (d : Half) : State := { s with i2c.clkdiv := d }

/-- The five timing registers (R32), written with counts of 1..255. -/
def State.setTiming (s : State) (t1 t2 t3 t4 t5 : Nat) : State :=
  { s with
    i2c.tStart1 := BitVec.ofNat 8 t1
    i2c.tStart2 := BitVec.ofNat 8 t2
    i2c.tStop1 := BitVec.ofNat 8 t3
    i2c.tStop2 := BitVec.ofNat 8 t4
    i2c.tStop3 := BitVec.ofNat 8 t5 }

/-- `SPI_READY <- b` (R33). -/
def State.setSpiReady (s : State) (b : Bool) : State := { s with spi.ready := b }

/-- The configuration registers of the SPI unit (R34 to R37, R39). -/
def State.setSpiConfig (s : State) (mode : Mode) (order : Order) (csPin : Byte) (policy : CsPolicy)
    (lowVal lowDir : Byte) : State :=
  { s with
    spi.mode := mode
    spi.order := order
    spi.csPin := csPin
    spi.policy := policy
    spi.lowVal := lowVal
    spi.lowDir := lowDir }

/-- `CS_LEVEL <- l` (R38). -/
def State.setCsLevel (s : State) (l : Bit) : State := { s with spi.csLevel := l }

/-- `DC_PRESENT <- b` (R40). -/
def State.setDcPresent (s : State) (b : Bool) : State := { s with dc.present := b }

/-- The configuration registers of the DC capability (R41, R42, R44). -/
def State.setDcConfig (s : State) (dcPin rstPin highVal highDir : Byte) : State :=
  { s with
    dc.dcPin := dcPin
    dc.rstPin := rstPin
    dc.highVal := highVal
    dc.highDir := highDir }

/-- `DC_LEVEL <- l` (R43). -/
def State.setDcLevel (s : State) (l : Bit) : State := { s with dc.dcLevel := l }

/-- The response of a request (R300). -/
def State.respond (s : State) (r : Response) : State := { s with resp := r }

/-- `delay(ms)`: no effect on any register (R276); the call is recorded (log 13). -/
def State.delay (s : State) (ms : Millis) : State := { s with waited := s.waited ++ [ms] }

/-- A reset of the block in use (R330): every register of the block at its reset value; `CB`, `RXQ` and `WIRE` belong to
the transport and the model and stay as they are (R331, log 22). No request performs it. -/
def State.blockReset (s : State) : State :=
  { s with
    xp.clkdiv := Xp.reset.clkdiv
    xp.loopback := Xp.reset.loopback
    i2c := I2c.reset
    spi := Spi.reset
    dc := Dc.reset }

/-! ## The environment's answers -/

/-- The bytes an answer may depend on: the delivered ones and those awaiting the flush (R66). -/
def State.history (s : State) : Bytes := s.xp.wire ++ s.xp.cb

/-- The environment's answer to the next transport call: the first of `script`, and a free one past its end
(R66, 93 U7, U8, log 8). -/
def State.answer (s : State) : Answer :=
  match s.script with
  | a :: _ => a
  | [] => ⟨Config.callOk s.calls s.history, Config.callBytes s.calls s.history⟩

/-- The state after a transport call has been answered. -/
def State.answered (s : State) : State := { s with script := s.script.tail, calls := s.calls + 1 }

/-- The response bytes that become available when `CB` is delivered. Where the bytes delivered before and with this
flush are whole engine commands their number is that of R123 and only their values are the environment's; else the
number is the environment's too (93 U12, log 10). -/
def State.arrivals (s : State) : Bytes :=
  match responseTotal s.params s.xp.wire, responseTotal s.params (s.xp.wire ++ s.xp.cb) with
  | some before, some after =>
    supply (Config.responseByte s.calls s.history) (after - before) 0 s.answer.bytes
  | _, _ => s.answer.bytes

/-- The state after a flush that succeeds: `WIRE <- WIRE ++ CB; CB <- []`, and the responses available (R63). -/
def State.flushed (s : State) : State :=
  { s.answered with
    xp.wire := s.xp.wire ++ s.xp.cb
    xp.cb := []
    xp.rxq := s.xp.rxq ++ s.arrivals }

/-- The state after a flush that fails: `WIRE` unchanged, `CB` any value (R63, 93 U6, log 9). -/
def State.flushLost (s : State) : State := { s.answered with xp.cb := s.answer.bytes }

/-- The state after a read of `n` bytes that succeeds: they leave the front of `RXQ` (R64). -/
def State.taken (s : State) (n : Nat) : State := { s.answered with xp.rxq := s.xp.rxq.drop n }

/-- The state after a read that fails: `RXQ` any value (R64, R308, 93 U6, log 9). -/
def State.readLost (s : State) : State := { s.answered with xp.rxq := s.answer.bytes }

/-- Whether a read of `n` bytes succeeds: the bytes are there and the environment lets it (R64, log 11). -/
def State.readOk (s : State) (n : Nat) : Bool := s.answer.ok && decide (n ≤ s.xp.rxq.length)

/-! ## Requests -/

/-- How a piece of a request's pseudocode ends: with a value, or with a raised error (R300), each in a state. -/
inductive Res (α : Type) where
  | done (v : α) (s : State)
  | raised (e : Error) (s : State)

/-- A piece of a request's pseudocode. -/
abbrev Req (α : Type) := State → Res α

/-- `return v`. -/
def ret {α : Type} (v : α) : Req α := fun s => .done v s

/-- `raise e`: the request ends here (R300). -/
def raise {α : Type} (e : Error) : Req α := fun s => .raised e s

/-- One piece and then the next; an error of the first is the error of the whole (R300). -/
def andThen {α β : Type} (m : Req α) (k : α → Req β) : Req β := fun s =>
  match m s with
  | .done v s' => k v s'
  | .raised e s' => .raised e s'

/-- A register write. -/
def update (f : State → State) : Req Unit := fun s => .done () (f s)

/-- A piece that depends on the registers. -/
def withState {α : Type} (k : State → Req α) : Req α := fun s => k s s

/-- What a rule says happens "on failure" of a piece, before the error goes on (R300). -/
def onFailure {α : Type} (m : Req α) (f : State → State) : Req α := fun s =>
  match m s with
  | .done v s' => .done v s'
  | .raised e s' => .raised e (f s')

/-- A piece for each element in turn. -/
def forEach {α : Type} (xs : List α) (k : α → Req Unit) : Req Unit :=
  match xs with
  | [] => ret ()
  | x :: rest => andThen (k x) fun _ => forEach rest k

/-- `enqueue(bytes)` (R62). -/
def enqueue (bs : Bytes) : Req Unit := update fun s => s.enqueue bs

/-- `enqueue` of what an `enc_` function returns; its error is the request's (R124). -/
def enqueueCommand (c : Except Error Bytes) : Req Unit :=
  match c with
  | .ok bs => enqueue bs
  | .error e => raise e

/-- `executeBuffer()` (R63). -/
def executeBuffer : Req Unit := fun s =>
  if s.answer.ok then .done () s.flushed else .raised .transportFailure s.flushLost

/-- `read(n)`; `read(0)` is `[]` without a transport call (R64). -/
def read (n : Nat) : Req Bytes := fun s =>
  if n = 0 then .done [] s
  else if s.readOk n then .done (s.xp.rxq.take n) (s.taken n)
  else .raised .transportFailure s.readLost

/-- `clearInput()`: `RXQ <- []` (R65). -/
def clearInput : Req Unit := update fun s => { s with xp.rxq := [] }

/-- `clearOutput()`: `CB <- []` (R65). -/
def clearOutput : Req Unit := update fun s => { s with xp.cb := [] }

/-- `setClockDivisor(d)`: the transport's own setting (R67, R28). -/
def setClockDivisor (d : Half) : Req Unit := update fun s => { s with xp.clkdiv := d }

/-- `loopbackEnabled(b)`: the transport's own setting (R67, R28). -/
def loopbackEnabled (b : Bool) : Req Unit := update fun s => { s with xp.loopback := b }

/-- `delay(ms)` (R276). -/
def delay (ms : Millis) : Req Unit := update fun s => s.delay ms

/-- The response to a request that has ended: OK with its result, or its error (R300). -/
def respondWith (r : Res Result) : State :=
  match r with
  | .done v s => s.respond (.ok v)
  | .raised e s => s.respond (.error e)

/-- A request runs to its end or to its first raise, and is answered (R300). -/
def complete (m : Req Result) (s : State) : Out := .next (respondWith (m s))

/-! ## Refusal conditions (R305 (1)) -/

/-- An I2C request that needs `I2C_READY` (R29, R207) and is allowed in the states `allowed` (R184). -/
def i2cRequest (allowed : Fsm → Bool) (m : Req Result) (s : State) : Out :=
  if s.i2c.ready then
    if allowed s.i2c.fsm then complete m s else .refused (.i2cOutOfSequence s.i2c.fsm)
  else .refused .i2cNotReady

/-- An SPI request that needs `SPI_READY` (R33, R248). -/
def spiRequest (m : Req Result) (s : State) : Out :=
  if s.spi.ready then complete m s else .refused .spiNotReady

/-- A DC request that needs `SPI_READY` and `DC_PRESENT` (R260, R280). -/
def dcRequest (m : Req Result) (s : State) : Out :=
  if s.spi.ready then
    if s.dc.present then complete m s else .refused .dcAbsent
  else .refused .spiNotReady

end Sys2Proof.Machine
end

