-- ==== Sys2Proof/Machine/Flags.lean ====
section
/-! DEFINITION. The block has no flag and no condition code (10_state.md R22). Its two condition values are results of a
request: the acknowledgment test (41_i2c.md R190, R206) and the status (60_exceptions.md R300, R301). -/

namespace Sys2Proof.Machine

/-- `acked(r) = (r[0] = 0)`: bits 7..1 are ignored (R190). -/
def acked (r : Byte) : Bool := !r.getLsbD 0

/-- The status of a request (R16). -/
inductive Status where
  | ok
  | invalidArgument
  | protocolNack
  | transportFailure
  deriving DecidableEq, Repr

/-- The 2-bit status code (R301). -/
def Status.code (st : Status) : BitVec 2 :=
  match st with
  | .ok => 0
  | .invalidArgument => 1
  | .protocolNack => 2
  | .transportFailure => 3

/-- The status of an error (R301). -/
def Error.status (e : Error) : Status :=
  match e with
  | .invalidArgument => .invalidArgument
  | .protocolNack _ => .protocolNack
  | .transportFailure => .transportFailure

/-- The value an error records: `k` for a ProtocolNack, nothing else (R301). -/
def Error.recorded (e : Error) : Option Nat :=
  match e with
  | .invalidArgument => none
  | .protocolNack k => some k
  | .transportFailure => none

/-- The status a request ended with, if one has ended (R300). -/
def Response.status (r : Response) : Option Status :=
  match r with
  | .awaiting => none
  | .ok _ => some .ok
  | .error e => some e.status

/-- The lowest index `j` of a response byte that is checked and not an acknowledgment (R203, R204). -/
def firstNack (checked : Nat → Bool) (j : Nat) (rs : Bytes) : Option Nat :=
  match rs with
  | [] => none
  | r :: rest => if checked j && !acked r then some j else firstNack checked (j + 1) rest

end Sys2Proof.Machine
end

