-- ==== Sys2Proof/Machine/Operands.lean ====
section
/-! DEFINITION. The operand forms and operand checks of the requests: the sub-range of a payload with its defaults
(40_encoder.md R141, R167), the length checks (R121), timing counts (41_i2c.md R186), address framing (R191), pin masks
(42_spi.md R233, 43_spi_dc.md R261), and signal levels. All arithmetic is that of 30_encoding.md R107. -/

namespace Sys2Proof.Machine

/-! ## Levels -/

/-- `1 - level` (R107 (i)). -/
def levelNot (b : Bit) : Bit :=
  match b with
  | .zero => .one
  | .one => .zero

/-- A Bit as a byte, 0 or 1. -/
def bitByte (b : Bit) : Byte :=
  match b with
  | .zero => 0
  | .one => 1

/-- The mask's bits at a level: `mask if level = 1 else 0x00` (R232, R264). -/
def maskAt (mask : Byte) (level : Bit) : Byte :=
  match level with
  | .zero => 0
  | .one => mask

/-! ## Payload sub-ranges and lengths -/

/-- `off`, default 0 (R141). -/
def offsetOf (off : Option Nat) : Nat := off.getD 0

/-- `L`, default `len(payload) - off` (R141). An offset beyond the payload leaves no byte, so the default is 0 and the
length check rejects it (DEDUCED, log 26). -/
def lengthOf (payload : Bytes) (off len : Option Nat) : Nat := len.getD (payload.length - offsetOf off)

/-- `MemRead(PAYLOAD, off, n)` (R15). -/
def memRead (payload : Bytes) (off n : Nat) : Bytes := (payload.drop off).take n

/-- `1 <= L <= 65536` (R121). -/
def legalByteCount (len : Nat) : Bool := decide (1 ≤ len ∧ len ≤ 65536)

/-- `1 <= K <= 8` (R121). -/
def legalBitCount (count : Nat) : Bool := decide (1 ≤ count ∧ count ≤ 8)

/-- `off + L <= len(payload)` (R167). -/
def insidePayload (payload : Bytes) (off len : Nat) : Bool := decide (off + len ≤ payload.length)

/-! ## Configuration operands -/

/-- `1 <= t <= 255` (R186). -/
def legalCount (t : Nat) : Bool := decide (1 ≤ t ∧ t ≤ 255)

/-- The five timing counts are legal (R186, R187). -/
def legalTiming (t1 t2 t3 t4 t5 : Nat) : Bool :=
  legalCount t1 && legalCount t2 && legalCount t3 && legalCount t4 && legalCount t5

/-- `CS_PIN` is non-zero and shares no bit with clock, data-out and data-in (R233). -/
def legalCsPin (p : Params) (csPin : Byte) : Bool :=
  csPin != 0 && csPin &&& (p.pinClk ||| p.pinDo ||| p.pinDi) == 0

/-- `DC_PIN` is non-zero and shares no bit with `RST_PIN` (R261). -/
def legalDcPins (dcPin rstPin : Byte) : Bool := dcPin != 0 && dcPin &&& rstPin == 0

/-! ## I2C operands -/

/-- `frame(a7, rw) = zext_8(a7) << 1 | rw` (R191). -/
def frame (a7 : Addr7) (rw : Bit) : Byte := (a7.setWidth 8 <<< 1) ||| bitByte rw

/-- `ackbyte(a)`: 0x00 acknowledges, 0xFF does not (R192). -/
def ackByte (a : Bool) : Byte := if a then 0x00 else 0xFF

/-! ## SPI and DC operands -/

/-- `spi_ops(mode, order)`: the write-only command and the duplex command (R231). -/
def spiOps (mode : Mode) (order : Order) : Cmd × Cmd :=
  match mode, order with
  | .mode0, .msbFirst => (.bytesOutMinusMsb, .bytesInPlusOutMinusMsb)
  | .mode2, .msbFirst => (.bytesOutPlusMsb, .bytesInMinusOutPlusMsb)
  | .mode0, .lsbFirst => (.bytesOutMinusLsb, .bytesInPlusOutMinusLsb)
  | .mode2, .lsbFirst => (.bytesOutPlusLsb, .bytesInMinusOutPlusLsb)

/-- The level Init puts chip-select at (R234). -/
def initialLevel (policy : CsPolicy) : Bit :=
  match policy with
  | .activeLow => .one
  | .activeHigh => .zero
  | .defaultLow => .zero
  | .defaultHigh => .one

/-- The level the enable sequence writes, if it writes one (R234). -/
def enableLevel (policy : CsPolicy) : Option Bit :=
  match policy with
  | .activeLow => some .zero
  | .activeHigh => some .one
  | .defaultLow => none
  | .defaultHigh => none

/-- The level the disable sequence writes, if it writes one (R234). -/
def disableLevel (policy : CsPolicy) : Option Bit :=
  match policy with
  | .activeLow => some .one
  | .activeHigh => some .zero
  | .defaultLow => none
  | .defaultHigh => none

/-- `dc_level(isCommand)`: a command is control-line low, data is high (R263). -/
def dcLevelOf (isCommand : Bool) : Bit := if isCommand then .zero else .one

end Sys2Proof.Machine
end

