-- ==== Sys2Proof/Machine/Encoder.lean ====
section
/-! DEFINITION. ENC: the pure functions `enc_Name` of 40_encoder.md (R120, R122), one per command of the catalog, each
over the layout of its format (30_encoding.md R91 to R95), and what the catalog says of a transfer command's edges and
bit order (R96, R97). A function answers the bytes or InvalidArgument and reads nothing but its operands and `OPC`. -/

namespace Sys2Proof.Machine

/-! ## The formats -/

/-- Format `N`: the opcode (R91). -/
def formatN (p : Params) (c : Cmd) : Bytes := [p.opcOf c]

/-- Format `P`: opcode, value, direction (R92). -/
def formatP (p : Params) (c : Cmd) (val dir : Byte) : Bytes := [p.opcOf c, val, dir]

/-- Format `D`: opcode, `lo8(div)`, `hi8(div)` (R93). -/
def formatD (p : Params) (c : Cmd) (div : Half) : Bytes := [p.opcOf c, lo8 div, hi8 div]

/-- The opcode and the length field of a byte transfer of `len` bytes (R94). -/
def byteHeader (p : Params) (c : Cmd) (len : Nat) : Bytes := p.opcOf c :: wireLen len

/-- Formats `YO` and `YIO`: the length check first, then the sub-range (R121, R167), then header and payload (R94). -/
def formatY (p : Params) (c : Cmd) (payload : Bytes) (off len : Nat) : Except Error Bytes :=
  if legalByteCount len then
    if insidePayload payload off len then .ok (byteHeader p c len ++ memRead payload off len)
    else .error .invalidArgument
  else .error .invalidArgument

/-- Format `YI`: opcode and length field (R94, R121). -/
def formatYI (p : Params) (c : Cmd) (len : Nat) : Except Error Bytes :=
  if legalByteCount len then .ok (byteHeader p c len) else .error .invalidArgument

/-- Formats `BO` and `BIO`: opcode, `K - 1`, data byte (R95, R121). -/
def formatB (p : Params) (c : Cmd) (data : Byte) (count : Nat) : Except Error Bytes :=
  if legalBitCount count then .ok (p.opcOf c :: wireBits count ++ [data]) else .error .invalidArgument

/-- Format `BI`: opcode, `K - 1` (R95, R121). -/
def formatBI (p : Params) (c : Cmd) (count : Nat) : Except Error Bytes :=
  if legalBitCount count then .ok (p.opcOf c :: wireBits count) else .error .invalidArgument

/-- The bytes of an `enc_` call whose operands are legal. -/
def legalBytes (c : Except Error Bytes) : Bytes :=
  match c with
  | .ok bs => bs
  | .error _ => []

/-! ## The functions -/

/-- `enc_SetClockDivisor` (R125). -/
def encSetClockDivisor (p : Params) (div : Half) : Bytes := formatD p .setClockDivisor div

/-- `enc_ClkDiv5Disable` (R126). -/
def encClkDiv5Disable (p : Params) : Bytes := formatN p .clkDiv5Disable

/-- `enc_ClkDiv5Enable` (R127). -/
def encClkDiv5Enable (p : Params) : Bytes := formatN p .clkDiv5Enable

/-- `enc_ThreePhaseEnable` (R128). -/
def encThreePhaseEnable (p : Params) : Bytes := formatN p .threePhaseEnable

/-- `enc_ThreePhaseDisable` (R129). -/
def encThreePhaseDisable (p : Params) : Bytes := formatN p .threePhaseDisable

/-- `enc_AdaptiveEnable` (R130). -/
def encAdaptiveEnable (p : Params) : Bytes := formatN p .adaptiveEnable

/-- `enc_AdaptiveDisable` (R131). -/
def encAdaptiveDisable (p : Params) : Bytes := formatN p .adaptiveDisable

/-- `enc_LoopbackConnect` (R132). -/
def encLoopbackConnect (p : Params) : Bytes := formatN p .loopbackConnect

/-- `enc_LoopbackDisconnect` (R133). -/
def encLoopbackDisconnect (p : Params) : Bytes := formatN p .loopbackDisconnect

/-- `enc_SendImmediate` (R134). -/
def encSendImmediate (p : Params) : Bytes := formatN p .sendImmediate

/-- `enc_WaitOnHigh` (R135). -/
def encWaitOnHigh (p : Params) : Bytes := formatN p .waitOnHigh

/-- `enc_WaitOnLow` (R136). -/
def encWaitOnLow (p : Params) : Bytes := formatN p .waitOnLow

/-- `enc_SetDataBitsLow` (R137). -/
def encSetDataBitsLow (p : Params) (val dir : Byte) : Bytes := formatP p .setDataBitsLow val dir

/-- `enc_SetDataBitsHigh` (R138). -/
def encSetDataBitsHigh (p : Params) (val dir : Byte) : Bytes := formatP p .setDataBitsHigh val dir

/-- `enc_ReadDataBitsLow` (R139). -/
def encReadDataBitsLow (p : Params) : Bytes := formatN p .readDataBitsLow

/-- `enc_ReadDataBitsHigh` (R140). -/
def encReadDataBitsHigh (p : Params) : Bytes := formatN p .readDataBitsHigh

/-- `enc_BytesOutPlusMsb` (R141). -/
def encBytesOutPlusMsb (p : Params) (payload : Bytes) (off len : Nat) : Except Error Bytes :=
  formatY p .bytesOutPlusMsb payload off len

/-- `enc_BytesOutMinusMsb` (R142). -/
def encBytesOutMinusMsb (p : Params) (payload : Bytes) (off len : Nat) : Except Error Bytes :=
  formatY p .bytesOutMinusMsb payload off len

/-- `enc_BytesOutPlusLsb` (R143). -/
def encBytesOutPlusLsb (p : Params) (payload : Bytes) (off len : Nat) : Except Error Bytes :=
  formatY p .bytesOutPlusLsb payload off len

/-- `enc_BytesOutMinusLsb` (R144). -/
def encBytesOutMinusLsb (p : Params) (payload : Bytes) (off len : Nat) : Except Error Bytes :=
  formatY p .bytesOutMinusLsb payload off len

/-- `enc_BytesInPlusMsb` (R145). -/
def encBytesInPlusMsb (p : Params) (len : Nat) : Except Error Bytes := formatYI p .bytesInPlusMsb len

/-- `enc_BytesInMinusMsb` (R146). -/
def encBytesInMinusMsb (p : Params) (len : Nat) : Except Error Bytes := formatYI p .bytesInMinusMsb len

/-- `enc_BytesInPlusLsb` (R147). -/
def encBytesInPlusLsb (p : Params) (len : Nat) : Except Error Bytes := formatYI p .bytesInPlusLsb len

/-- `enc_BytesInMinusLsb` (R148). -/
def encBytesInMinusLsb (p : Params) (len : Nat) : Except Error Bytes := formatYI p .bytesInMinusLsb len

/-- `enc_BytesInPlusOutMinusMsb` (R149). -/
def encBytesInPlusOutMinusMsb (p : Params) (payload : Bytes) (off len : Nat) : Except Error Bytes :=
  formatY p .bytesInPlusOutMinusMsb payload off len

/-- `enc_BytesInMinusOutPlusMsb` (R150). -/
def encBytesInMinusOutPlusMsb (p : Params) (payload : Bytes) (off len : Nat) : Except Error Bytes :=
  formatY p .bytesInMinusOutPlusMsb payload off len

/-- `enc_BytesInPlusOutMinusLsb` (R151). -/
def encBytesInPlusOutMinusLsb (p : Params) (payload : Bytes) (off len : Nat) : Except Error Bytes :=
  formatY p .bytesInPlusOutMinusLsb payload off len

/-- `enc_BytesInMinusOutPlusLsb` (R152). -/
def encBytesInMinusOutPlusLsb (p : Params) (payload : Bytes) (off len : Nat) : Except Error Bytes :=
  formatY p .bytesInMinusOutPlusLsb payload off len

/-- `enc_BitsOutPlusMsb` (R153). -/
def encBitsOutPlusMsb (p : Params) (data : Byte) (count : Nat) : Except Error Bytes :=
  formatB p .bitsOutPlusMsb data count

/-- `enc_BitsOutMinusMsb` (R154). -/
def encBitsOutMinusMsb (p : Params) (data : Byte) (count : Nat) : Except Error Bytes :=
  formatB p .bitsOutMinusMsb data count

/-- `enc_BitsOutPlusLsb` (R155). -/
def encBitsOutPlusLsb (p : Params) (data : Byte) (count : Nat) : Except Error Bytes :=
  formatB p .bitsOutPlusLsb data count

/-- `enc_BitsOutMinusLsb` (R156). -/
def encBitsOutMinusLsb (p : Params) (data : Byte) (count : Nat) : Except Error Bytes :=
  formatB p .bitsOutMinusLsb data count

/-- `enc_BitsInPlusMsb` (R157). -/
def encBitsInPlusMsb (p : Params) (count : Nat) : Except Error Bytes := formatBI p .bitsInPlusMsb count

/-- `enc_BitsInMinusMsb` (R158). -/
def encBitsInMinusMsb (p : Params) (count : Nat) : Except Error Bytes := formatBI p .bitsInMinusMsb count

/-- `enc_BitsInPlusLsb` (R159). -/
def encBitsInPlusLsb (p : Params) (count : Nat) : Except Error Bytes := formatBI p .bitsInPlusLsb count

/-- `enc_BitsInMinusLsb` (R160). -/
def encBitsInMinusLsb (p : Params) (count : Nat) : Except Error Bytes := formatBI p .bitsInMinusLsb count

/-- `enc_BitsInPlusOutMinusMsb` (R161). -/
def encBitsInPlusOutMinusMsb (p : Params) (data : Byte) (count : Nat) : Except Error Bytes :=
  formatB p .bitsInPlusOutMinusMsb data count

/-- `enc_BitsInMinusOutPlusMsb` (R162). -/
def encBitsInMinusOutPlusMsb (p : Params) (data : Byte) (count : Nat) : Except Error Bytes :=
  formatB p .bitsInMinusOutPlusMsb data count

/-- `enc_BitsInPlusOutMinusLsb` (R163). -/
def encBitsInPlusOutMinusLsb (p : Params) (data : Byte) (count : Nat) : Except Error Bytes :=
  formatB p .bitsInPlusOutMinusLsb data count

/-- `enc_BitsInMinusOutPlusLsb` (R164). -/
def encBitsInMinusOutPlusLsb (p : Params) (data : Byte) (count : Nat) : Except Error Bytes :=
  formatB p .bitsInMinusOutPlusLsb data count

/-! ## Edges and bit order of the transfer commands -/

/-- What the catalog says of a transfer command: bit or byte mode, the edge on which data goes out, the edge on which it
is sampled, the bit order (R96). -/
structure Transfer where
  bitMode : Bool
  out : Option Edge
  inp : Option Edge
  order : Order
  deriving DecidableEq, Repr

/-- The transfer a command makes, if it is a transfer command (R96, R141 to R164). -/
def transferOf (c : Cmd) : Option Transfer :=
  match c with
  | .setClockDivisor => none
  | .clkDiv5Disable => none
  | .clkDiv5Enable => none
  | .threePhaseEnable => none
  | .threePhaseDisable => none
  | .adaptiveEnable => none
  | .adaptiveDisable => none
  | .loopbackConnect => none
  | .loopbackDisconnect => none
  | .sendImmediate => none
  | .waitOnHigh => none
  | .waitOnLow => none
  | .setDataBitsLow => none
  | .setDataBitsHigh => none
  | .readDataBitsLow => none
  | .readDataBitsHigh => none
  | .bytesOutPlusMsb => some ⟨false, some .plus, none, .msbFirst⟩
  | .bytesOutMinusMsb => some ⟨false, some .minus, none, .msbFirst⟩
  | .bytesOutPlusLsb => some ⟨false, some .plus, none, .lsbFirst⟩
  | .bytesOutMinusLsb => some ⟨false, some .minus, none, .lsbFirst⟩
  | .bytesInPlusMsb => some ⟨false, none, some .plus, .msbFirst⟩
  | .bytesInMinusMsb => some ⟨false, none, some .minus, .msbFirst⟩
  | .bytesInPlusLsb => some ⟨false, none, some .plus, .lsbFirst⟩
  | .bytesInMinusLsb => some ⟨false, none, some .minus, .lsbFirst⟩
  | .bytesInPlusOutMinusMsb => some ⟨false, some .minus, some .plus, .msbFirst⟩
  | .bytesInMinusOutPlusMsb => some ⟨false, some .plus, some .minus, .msbFirst⟩
  | .bytesInPlusOutMinusLsb => some ⟨false, some .minus, some .plus, .lsbFirst⟩
  | .bytesInMinusOutPlusLsb => some ⟨false, some .plus, some .minus, .lsbFirst⟩
  | .bitsOutPlusMsb => some ⟨true, some .plus, none, .msbFirst⟩
  | .bitsOutMinusMsb => some ⟨true, some .minus, none, .msbFirst⟩
  | .bitsOutPlusLsb => some ⟨true, some .plus, none, .lsbFirst⟩
  | .bitsOutMinusLsb => some ⟨true, some .minus, none, .lsbFirst⟩
  | .bitsInPlusMsb => some ⟨true, none, some .plus, .msbFirst⟩
  | .bitsInMinusMsb => some ⟨true, none, some .minus, .msbFirst⟩
  | .bitsInPlusLsb => some ⟨true, none, some .plus, .lsbFirst⟩
  | .bitsInMinusLsb => some ⟨true, none, some .minus, .lsbFirst⟩
  | .bitsInPlusOutMinusMsb => some ⟨true, some .minus, some .plus, .msbFirst⟩
  | .bitsInMinusOutPlusMsb => some ⟨true, some .plus, some .minus, .msbFirst⟩
  | .bitsInPlusOutMinusLsb => some ⟨true, some .minus, some .plus, .lsbFirst⟩
  | .bitsInMinusOutPlusLsb => some ⟨true, some .plus, some .minus, .lsbFirst⟩

/-- A bit of an opcode byte. -/
def opcodeBit (b : Bool) (mask : Byte) : Byte := if b then mask else 0

/-- The opcode byte of the bit scheme of R97: bit 0 output on the minus edge, bit 1 bit mode, bit 2 input on the minus
edge, bit 3 LSB first, bit 4 data out, bit 5 data in. PRESUMED, from general knowledge (log 4). -/
def schemeOpcode (t : Transfer) : Byte :=
  opcodeBit (t.out == some .minus) 0x01 ||| opcodeBit t.bitMode 0x02 ||| opcodeBit (t.inp == some .minus) 0x04 |||
  opcodeBit (t.order == .lsbFirst) 0x08 ||| opcodeBit t.out.isSome 0x10 ||| opcodeBit t.inp.isSome 0x20

end Sys2Proof.Machine
end

