-- ==== Sys2Proof/Machine/Commands.lean ====
section
/-! DEFINITION. The 40 engine commands of the opcode table, in their function form (40_encoder.md R120, R122, R319; log
3): a call hands the operands to `enc_Name` and the answer is the byte sequence or InvalidArgument. It is no request and
has no select code (R104). The function is pure, so nothing but the response changes: no byte is appended, no transport
call is made. -/

namespace Sys2Proof.Machine

/-- Answers what an `enc_` function returns (R120): its bytes, or its error. -/
def answerCommand (c : Except Error Bytes) (s : State) : Out :=
  complete (match c with
    | .ok bs => ret (.bytes bs)
    | .error e => raise e) s

/-- `SetClockDivisor`: the value of `enc_SetClockDivisor` (R125). -/
def execSetClockDivisor (div : Half) (s : State) : Out :=
  answerCommand (.ok (encSetClockDivisor s.params div)) s

/-- `ClkDiv5Disable`: the value of `enc_ClkDiv5Disable` (R126). -/
def execClkDiv5Disable (s : State) : Out :=
  answerCommand (.ok (encClkDiv5Disable s.params)) s

/-- `ClkDiv5Enable`: the value of `enc_ClkDiv5Enable` (R127). -/
def execClkDiv5Enable (s : State) : Out :=
  answerCommand (.ok (encClkDiv5Enable s.params)) s

/-- `ThreePhaseEnable`: the value of `enc_ThreePhaseEnable` (R128). -/
def execThreePhaseEnable (s : State) : Out :=
  answerCommand (.ok (encThreePhaseEnable s.params)) s

/-- `ThreePhaseDisable`: the value of `enc_ThreePhaseDisable` (R129). -/
def execThreePhaseDisable (s : State) : Out :=
  answerCommand (.ok (encThreePhaseDisable s.params)) s

/-- `AdaptiveEnable`: the value of `enc_AdaptiveEnable` (R130). -/
def execAdaptiveEnable (s : State) : Out :=
  answerCommand (.ok (encAdaptiveEnable s.params)) s

/-- `AdaptiveDisable`: the value of `enc_AdaptiveDisable` (R131). -/
def execAdaptiveDisable (s : State) : Out :=
  answerCommand (.ok (encAdaptiveDisable s.params)) s

/-- `LoopbackConnect`: the value of `enc_LoopbackConnect` (R132). -/
def execLoopbackConnect (s : State) : Out :=
  answerCommand (.ok (encLoopbackConnect s.params)) s

/-- `LoopbackDisconnect`: the value of `enc_LoopbackDisconnect` (R133). -/
def execLoopbackDisconnect (s : State) : Out :=
  answerCommand (.ok (encLoopbackDisconnect s.params)) s

/-- `SendImmediate`: the value of `enc_SendImmediate` (R134). -/
def execSendImmediate (s : State) : Out :=
  answerCommand (.ok (encSendImmediate s.params)) s

/-- `WaitOnHigh`: the value of `enc_WaitOnHigh` (R135). -/
def execWaitOnHigh (s : State) : Out :=
  answerCommand (.ok (encWaitOnHigh s.params)) s

/-- `WaitOnLow`: the value of `enc_WaitOnLow` (R136). -/
def execWaitOnLow (s : State) : Out :=
  answerCommand (.ok (encWaitOnLow s.params)) s

/-- `SetDataBitsLow`: the value of `enc_SetDataBitsLow` (R137). -/
def execSetDataBitsLow (val dir : Byte) (s : State) : Out :=
  answerCommand (.ok (encSetDataBitsLow s.params val dir)) s

/-- `SetDataBitsHigh`: the value of `enc_SetDataBitsHigh` (R138). -/
def execSetDataBitsHigh (val dir : Byte) (s : State) : Out :=
  answerCommand (.ok (encSetDataBitsHigh s.params val dir)) s

/-- `ReadDataBitsLow`: the value of `enc_ReadDataBitsLow` (R139). -/
def execReadDataBitsLow (s : State) : Out :=
  answerCommand (.ok (encReadDataBitsLow s.params)) s

/-- `ReadDataBitsHigh`: the value of `enc_ReadDataBitsHigh` (R140). -/
def execReadDataBitsHigh (s : State) : Out :=
  answerCommand (.ok (encReadDataBitsHigh s.params)) s

/-- `BytesOutPlusMsb`: the value of `enc_BytesOutPlusMsb` (R141). -/
def execBytesOutPlusMsb (payload : Bytes) (off len : Option Nat) (s : State) : Out :=
  answerCommand (encBytesOutPlusMsb s.params payload (offsetOf off) (lengthOf payload off len)) s

/-- `BytesOutMinusMsb`: the value of `enc_BytesOutMinusMsb` (R142). -/
def execBytesOutMinusMsb (payload : Bytes) (off len : Option Nat) (s : State) : Out :=
  answerCommand (encBytesOutMinusMsb s.params payload (offsetOf off) (lengthOf payload off len)) s

/-- `BytesOutPlusLsb`: the value of `enc_BytesOutPlusLsb` (R143). -/
def execBytesOutPlusLsb (payload : Bytes) (off len : Option Nat) (s : State) : Out :=
  answerCommand (encBytesOutPlusLsb s.params payload (offsetOf off) (lengthOf payload off len)) s

/-- `BytesOutMinusLsb`: the value of `enc_BytesOutMinusLsb` (R144). -/
def execBytesOutMinusLsb (payload : Bytes) (off len : Option Nat) (s : State) : Out :=
  answerCommand (encBytesOutMinusLsb s.params payload (offsetOf off) (lengthOf payload off len)) s

/-- `BytesInPlusMsb`: the value of `enc_BytesInPlusMsb` (R145). -/
def execBytesInPlusMsb (len : Nat) (s : State) : Out :=
  answerCommand (encBytesInPlusMsb s.params len) s

/-- `BytesInMinusMsb`: the value of `enc_BytesInMinusMsb` (R146). -/
def execBytesInMinusMsb (len : Nat) (s : State) : Out :=
  answerCommand (encBytesInMinusMsb s.params len) s

/-- `BytesInPlusLsb`: the value of `enc_BytesInPlusLsb` (R147). -/
def execBytesInPlusLsb (len : Nat) (s : State) : Out :=
  answerCommand (encBytesInPlusLsb s.params len) s

/-- `BytesInMinusLsb`: the value of `enc_BytesInMinusLsb` (R148). -/
def execBytesInMinusLsb (len : Nat) (s : State) : Out :=
  answerCommand (encBytesInMinusLsb s.params len) s

/-- `BytesInPlusOutMinusMsb`: the value of `enc_BytesInPlusOutMinusMsb` (R149). -/
def execBytesInPlusOutMinusMsb (payload : Bytes) (off len : Option Nat) (s : State) : Out :=
  answerCommand (encBytesInPlusOutMinusMsb s.params payload (offsetOf off) (lengthOf payload off len)) s

/-- `BytesInMinusOutPlusMsb`: the value of `enc_BytesInMinusOutPlusMsb` (R150). -/
def execBytesInMinusOutPlusMsb (payload : Bytes) (off len : Option Nat) (s : State) : Out :=
  answerCommand (encBytesInMinusOutPlusMsb s.params payload (offsetOf off) (lengthOf payload off len)) s

/-- `BytesInPlusOutMinusLsb`: the value of `enc_BytesInPlusOutMinusLsb` (R151). -/
def execBytesInPlusOutMinusLsb (payload : Bytes) (off len : Option Nat) (s : State) : Out :=
  answerCommand (encBytesInPlusOutMinusLsb s.params payload (offsetOf off) (lengthOf payload off len)) s

/-- `BytesInMinusOutPlusLsb`: the value of `enc_BytesInMinusOutPlusLsb` (R152). -/
def execBytesInMinusOutPlusLsb (payload : Bytes) (off len : Option Nat) (s : State) : Out :=
  answerCommand (encBytesInMinusOutPlusLsb s.params payload (offsetOf off) (lengthOf payload off len)) s

/-- `BitsOutPlusMsb`: the value of `enc_BitsOutPlusMsb` (R153). -/
def execBitsOutPlusMsb (data : Byte) (count : Nat) (s : State) : Out :=
  answerCommand (encBitsOutPlusMsb s.params data count) s

/-- `BitsOutMinusMsb`: the value of `enc_BitsOutMinusMsb` (R154). -/
def execBitsOutMinusMsb (data : Byte) (count : Nat) (s : State) : Out :=
  answerCommand (encBitsOutMinusMsb s.params data count) s

/-- `BitsOutPlusLsb`: the value of `enc_BitsOutPlusLsb` (R155). -/
def execBitsOutPlusLsb (data : Byte) (count : Nat) (s : State) : Out :=
  answerCommand (encBitsOutPlusLsb s.params data count) s

/-- `BitsOutMinusLsb`: the value of `enc_BitsOutMinusLsb` (R156). -/
def execBitsOutMinusLsb (data : Byte) (count : Nat) (s : State) : Out :=
  answerCommand (encBitsOutMinusLsb s.params data count) s

/-- `BitsInPlusMsb`: the value of `enc_BitsInPlusMsb` (R157). -/
def execBitsInPlusMsb (count : Nat) (s : State) : Out :=
  answerCommand (encBitsInPlusMsb s.params count) s

/-- `BitsInMinusMsb`: the value of `enc_BitsInMinusMsb` (R158). -/
def execBitsInMinusMsb (count : Nat) (s : State) : Out :=
  answerCommand (encBitsInMinusMsb s.params count) s

/-- `BitsInPlusLsb`: the value of `enc_BitsInPlusLsb` (R159). -/
def execBitsInPlusLsb (count : Nat) (s : State) : Out :=
  answerCommand (encBitsInPlusLsb s.params count) s

/-- `BitsInMinusLsb`: the value of `enc_BitsInMinusLsb` (R160). -/
def execBitsInMinusLsb (count : Nat) (s : State) : Out :=
  answerCommand (encBitsInMinusLsb s.params count) s

/-- `BitsInPlusOutMinusMsb`: the value of `enc_BitsInPlusOutMinusMsb` (R161). -/
def execBitsInPlusOutMinusMsb (data : Byte) (count : Nat) (s : State) : Out :=
  answerCommand (encBitsInPlusOutMinusMsb s.params data count) s

/-- `BitsInMinusOutPlusMsb`: the value of `enc_BitsInMinusOutPlusMsb` (R162). -/
def execBitsInMinusOutPlusMsb (data : Byte) (count : Nat) (s : State) : Out :=
  answerCommand (encBitsInMinusOutPlusMsb s.params data count) s

/-- `BitsInPlusOutMinusLsb`: the value of `enc_BitsInPlusOutMinusLsb` (R163). -/
def execBitsInPlusOutMinusLsb (data : Byte) (count : Nat) (s : State) : Out :=
  answerCommand (encBitsInPlusOutMinusLsb s.params data count) s

/-- `BitsInMinusOutPlusLsb`: the value of `enc_BitsInMinusOutPlusLsb` (R164). -/
def execBitsInMinusOutPlusLsb (data : Byte) (count : Nat) (s : State) : Out :=
  answerCommand (encBitsInMinusOutPlusLsb s.params data count) s

end Sys2Proof.Machine
end

