-- ==== Sys2Proof/Machine/Spi.lean ====
section
/-! DEFINITION. The SPI unit (42_spi.md): the chip-select command (R232), the enable and disable sequences (R235, R236),
the bracketed transfer, and the six requests (R238 to R243). -/

namespace Sys2Proof.Machine

/-! ## Chip-select -/

/-- `lo_val(level)` (R232). -/
def loVal (s : State) (level : Bit) : Byte := (s.spi.lowVal &&& ~~~s.spi.csPin) ||| maskAt s.spi.csPin level

/-- `lo_dir` (R232). -/
def loDir (s : State) : Byte := s.spi.lowDir ||| s.spi.csPin ||| s.params.pinDo ||| s.params.pinClk

/-- `cs_cmd(level)` (R232). -/
def csCmd (s : State) (level : Bit) : Bytes := encSetDataBitsLow s.params (loVal s level) (loDir s)

/-- `CS_LEVEL <- level; enqueue(cs_cmd(level))`, in one step (R38, R235). -/
def csSet (level : Bit) : Req Unit := update fun s => (s.setCsLevel level).enqueue (csCmd s level)

/-- Writes the level a policy gives, if it gives one. -/
def csSetIfManaged (level : Option Bit) : Req Unit :=
  match level with
  | none => ret ()
  | some l => csSet l

/-- `spi_enable()` (R235). -/
def spiEnable : Req Unit := withState fun s => csSetIfManaged (enableLevel s.spi.policy)

/-- `spi_disable()` (R236). -/
def spiDisable : Req Unit := withState fun s => csSetIfManaged (disableLevel s.spi.policy)

/-! ## Transfers -/

/-- A payload command of the SPI unit: the write-only or the duplex one of each mode and order (R231), all of format
`YO` or `YIO`. -/
def encTransfer (p : Params) (c : Cmd) (payload : Bytes) (off len : Nat) : Except Error Bytes :=
  match c with
  | .bytesOutMinusMsb => encBytesOutMinusMsb p payload off len
  | .bytesOutPlusMsb => encBytesOutPlusMsb p payload off len
  | .bytesOutMinusLsb => encBytesOutMinusLsb p payload off len
  | .bytesOutPlusLsb => encBytesOutPlusLsb p payload off len
  | .bytesInPlusOutMinusMsb => encBytesInPlusOutMinusMsb p payload off len
  | .bytesInMinusOutPlusMsb => encBytesInMinusOutPlusMsb p payload off len
  | .bytesInPlusOutMinusLsb => encBytesInPlusOutMinusLsb p payload off len
  | .bytesInMinusOutPlusLsb => encBytesInMinusOutPlusLsb p payload off len
  | _ => .error .invalidArgument

/-- `enqueue(enc_wr(payload, off, n))` (R231). -/
def enqueueWrite (payload : Bytes) (off n : Nat) : Req Unit :=
  withState fun s => enqueueCommand (encTransfer s.params (spiOps s.spi.mode s.spi.order).1 payload off n)

/-- `enqueue(enc_rw(payload, off, n))` (R231). -/
def enqueueDuplex (payload : Bytes) (off n : Nat) : Req Unit :=
  withState fun s => enqueueCommand (encTransfer s.params (spiOps s.spi.mode s.spi.order).2 payload off n)

/-- Enable, what lies in the bracket, disable, flush (R237). -/
def bracketed (inside : Req Unit) : Req Unit :=
  andThen spiEnable fun _ =>
  andThen inside fun _ =>
  andThen spiDisable fun _ => executeBuffer

/-! ## Requests -/

/-- SPI.Init (R238): allowed in any state. -/
def execSpiInit (mode : Mode) (order : Order) (csPin : Byte) (policy : CsPolicy) (lowVal lowDir : Byte) (s : State) :
    Out :=
  complete
    (if legalCsPin s.params csPin then
      andThen (update fun s => (s.setSpiConfig mode order csPin policy lowVal lowDir).setDcPresent false) fun _ =>
      andThen (csSet (initialLevel policy)) fun _ =>
      andThen (onFailure executeBuffer fun s => s.setSpiReady false) fun _ =>
      andThen (update fun s => s.setSpiReady true) fun _ => ret .unit
    else raise .invalidArgument) s

/-- SPI.SetCsLevel (R239). -/
def execSpiSetCsLevel (level : Bit) (s : State) : Out :=
  spiRequest (andThen (csSet level) fun _ => ret .unit) s

/-- SPI.Enable (R240). -/
def execSpiEnable (s : State) : Out :=
  spiRequest (andThen spiEnable fun _ => ret .unit) s

/-- SPI.Disable (R241). -/
def execSpiDisable (s : State) : Out :=
  spiRequest (andThen spiDisable fun _ => ret .unit) s

/-- SPI.Write (R242). -/
def execSpiWrite (payload : Bytes) (s : State) : Out :=
  spiRequest
    (if legalByteCount payload.length then
      andThen (bracketed (enqueueWrite payload 0 payload.length)) fun _ => ret .unit
    else raise .invalidArgument) s

/-- SPI.Transfer (R243). -/
def execSpiTransfer (payload : Bytes) (s : State) : Out :=
  spiRequest
    (if legalByteCount payload.length then
      andThen (bracketed (enqueueDuplex payload 0 payload.length)) fun _ =>
      andThen (read payload.length) fun r => ret (.bytes r)
    else raise .invalidArgument) s

end Sys2Proof.Machine
end

