-- ==== Sys2Proof/Machine/Dc.lean ====
section
/-! DEFINITION. The command/data variant (43_spi_dc.md): the data/command pin command (R264), chunking (R266), the
command stream (R269 to R271), and the seven requests (R262, R265, R267, R268, R272, R274, R275). -/

namespace Sys2Proof.Machine

/-! ## The data/command pin -/

/-- The reset pin in a pin command (R264). -/
inductive Rst where
  | inactive
  | active
  deriving DecidableEq, Repr

/-- `rst_bit(rst)` (R264). -/
def rstBit (p : Params) (rst : Rst) : Bit :=
  match rst with
  | .active => p.rstActive
  | .inactive => levelNot p.rstActive

/-- `hi_val(level, rst)` (R264). -/
def hiVal (s : State) (level : Bit) (rst : Rst) : Byte :=
  (s.dc.highVal &&& ~~~(s.dc.dcPin ||| s.dc.rstPin)) ||| maskAt s.dc.dcPin level |||
  maskAt s.dc.rstPin (rstBit s.params rst)

/-- `hi_dir` (R264). -/
def hiDir (s : State) : Byte := s.dc.highDir ||| s.dc.dcPin ||| s.dc.rstPin

/-- `dc_cmd(level, rst)` (R264). -/
def dcCmd (s : State) (level : Bit) (rst : Rst) : Bytes := encSetDataBitsHigh s.params (hiVal s level rst) (hiDir s)

/-- `dc_set(level, rst)` (R264). -/
def dcSet (level : Bit) (rst : Rst) : Req Unit :=
  update fun s => (s.setDcLevel level).enqueue (dcCmd s level rst)

/-- `dc_set(1 - DC_LEVEL, rst)`, a toggle (R273). -/
def dcToggle (rst : Rst) : Req Unit := withState fun s => dcSet (levelNot s.dc.dcLevel) rst

/-! ## Chunking -/

/-- The chunks of `left` bytes from `off` on, each of 65535 bytes but the last (R266); the first argument bounds their
number. -/
def chunksFrom : Nat → Nat → Nat → List (Nat × Nat)
  | 0, off, left => [(off, left)]
  | fuel + 1, off, left =>
    if left > 65535 then (off, 65535) :: chunksFrom fuel (off + 65535) (left - 65535) else [(off, left)]

/-- `dc_chunks(L)` (R266). -/
def dcChunks (len : Nat) : List (Nat × Nat) :=
  if len ≤ 65536 then [(0, len)] else chunksFrom len 0 len

/-! ## The command stream -/

/-- The argument count in a count byte: bit 7 is ignored (R271). -/
def argCount (b : Byte) : Nat := (b &&& 0x7F).toNat

/-- The entries from index `i` on (R270); the first argument bounds their number. -/
def parseFrom : Nat → Bytes → Nat → Except Error (List (Nat × Nat))
  | 0, _, _ => .ok []
  | fuel + 1, buf, i =>
    if i < buf.length then
      if i + 1 ≥ buf.length then .error .invalidArgument
      else if i + 2 + argCount (buf.getD (i + 1) 0) > buf.length then .error .invalidArgument
      else match parseFrom fuel buf (i + 2 + argCount (buf.getD (i + 1) 0)) with
        | .error e => .error e
        | .ok rest => .ok ((i, argCount (buf.getD (i + 1) 0)) :: rest)
    else .ok []

/-- `parse_stream(buf)`: the entries as (index of the command byte, argument count) (R270). -/
def parseStream (buf : Bytes) : Except Error (List (Nat × Nat)) := parseFrom buf.length buf 0

/-- One entry of the stream: the command byte as command, its arguments, if any, as data (R272). -/
def streamEntry (buf : Bytes) (e : Nat × Nat) : Req Unit :=
  andThen (dcSet .zero .inactive) fun _ =>
  andThen (enqueueWrite buf e.1 1) fun _ =>
  if e.2 > 0 then
    andThen (dcSet .one .inactive) fun _ => enqueueWrite buf (e.1 + 2) e.2
  else ret ()

/-! ## Requests -/

/-- DC.Init (R262): allowed in any state. -/
def execDcInit (mode : Mode) (order : Order) (csPin : Byte) (policy : CsPolicy)
    (lowVal lowDir dcPin rstPin highVal highDir : Byte) (s : State) : Out :=
  complete
    (if legalCsPin s.params csPin && legalDcPins dcPin rstPin then
      andThen (update fun s =>
        (s.setSpiConfig mode order csPin policy lowVal lowDir).setDcConfig dcPin rstPin highVal highDir) fun _ =>
      andThen (csSet (initialLevel policy)) fun _ =>
      andThen (dcSet .one .inactive) fun _ =>
      andThen (onFailure executeBuffer fun s => (s.setSpiReady false).setDcPresent false) fun _ =>
      andThen (update fun s => (s.setSpiReady true).setDcPresent true) fun _ => ret .unit
    else raise .invalidArgument) s

/-- DC.SetDcLevel (R265). -/
def execDcSetDcLevel (isCommand : Bool) (s : State) : Out :=
  dcRequest (andThen (dcSet (dcLevelOf isCommand) .inactive) fun _ => ret .unit) s

/-- DC.Write (R267). -/
def execDcWrite (payload : Bytes) (isCommand : Bool) (s : State) : Out :=
  dcRequest
    (if payload.length < 1 then raise .invalidArgument
     else
      andThen (bracketed
        (andThen (dcSet (dcLevelOf isCommand) .inactive) fun _ =>
         forEach (dcChunks payload.length) fun c => enqueueWrite payload c.1 c.2)) fun _ => ret .unit) s

/-- DC.Transfer (R268). -/
def execDcTransfer (payload : Bytes) (isCommand : Bool) (s : State) : Out :=
  dcRequest
    (if payload.length < 1 then raise .invalidArgument
     else
      andThen (bracketed
        (andThen (dcSet (dcLevelOf isCommand) .inactive) fun _ =>
         forEach (dcChunks payload.length) fun c => enqueueDuplex payload c.1 c.2)) fun _ =>
      andThen (read payload.length) fun r => ret (.bytes r)) s

/-- DC.CommandStream (R272). -/
def execDcCommandStream (buf : Bytes) (s : State) : Out :=
  dcRequest
    (match parseStream buf with
     | .error e => raise e
     | .ok entries => andThen (bracketed (forEach entries (streamEntry buf))) fun _ => ret .unit) s

/-- DC.ResetDance (R274): five toggles with reset inactive, one with it active, one flush. -/
def execDcResetDance (s : State) : Out :=
  dcRequest
    (andThen (forEach (List.replicate 5 ()) fun _ => dcToggle .inactive) fun _ =>
     andThen (dcToggle .active) fun _ =>
     andThen executeBuffer fun _ => ret .unit) s

/-- DC.ResetTimed (R275): reset asserted, flush, wait, released, flush, wait; `DC_LEVEL` unchanged. -/
def execDcResetTimed (ms1 ms2 : Millis) (s : State) : Out :=
  dcRequest
    (andThen (update fun s => s.enqueue (dcCmd s s.dc.dcLevel .active)) fun _ =>
     andThen executeBuffer fun _ =>
     andThen (delay ms1) fun _ =>
     andThen (update fun s => s.enqueue (dcCmd s s.dc.dcLevel .inactive)) fun _ =>
     andThen executeBuffer fun _ =>
     andThen (delay ms2) fun _ => ret .unit) s

end Sys2Proof.Machine
end

