-- ==== Sys2Proof/Machine/EncRequests.lean ====
section
/-! DEFINITION. The 40 ENC requests (40_encoder.md R120, R124): call `enc_Name` and append what it returns to `CB`; an
error leaves everything as it was. No flush, no read, no Init needed, no register of any unit touched (R124, R297). -/

namespace Sys2Proof.Machine

/-- The request form `ENC.Name` (R124). -/
def appendCommand (c : Except Error Bytes) (s : State) : Out :=
  complete (andThen (enqueueCommand c) fun _ => ret .unit) s

/-- `ENC.SetClockDivisor` (R125, R124). -/
def execEncSetClockDivisor (div : Half) (s : State) : Out :=
  appendCommand (.ok (encSetClockDivisor s.params div)) s

/-- `ENC.ClkDiv5Disable` (R126, R124). -/
def execEncClkDiv5Disable (s : State) : Out :=
  appendCommand (.ok (encClkDiv5Disable s.params)) s

/-- `ENC.ClkDiv5Enable` (R127, R124). -/
def execEncClkDiv5Enable (s : State) : Out :=
  appendCommand (.ok (encClkDiv5Enable s.params)) s

/-- `ENC.ThreePhaseEnable` (R128, R124). -/
def execEncThreePhaseEnable (s : State) : Out :=
  appendCommand (.ok (encThreePhaseEnable s.params)) s

/-- `ENC.ThreePhaseDisable` (R129, R124). -/
def execEncThreePhaseDisable (s : State) : Out :=
  appendCommand (.ok (encThreePhaseDisable s.params)) s

/-- `ENC.AdaptiveEnable` (R130, R124). -/
def execEncAdaptiveEnable (s : State) : Out :=
  appendCommand (.ok (encAdaptiveEnable s.params)) s

/-- `ENC.AdaptiveDisable` (R131, R124). -/
def execEncAdaptiveDisable (s : State) : Out :=
  appendCommand (.ok (encAdaptiveDisable s.params)) s

/-- `ENC.LoopbackConnect` (R132, R124). -/
def execEncLoopbackConnect (s : State) : Out :=
  appendCommand (.ok (encLoopbackConnect s.params)) s

/-- `ENC.LoopbackDisconnect` (R133, R124). -/
def execEncLoopbackDisconnect (s : State) : Out :=
  appendCommand (.ok (encLoopbackDisconnect s.params)) s

/-- `ENC.SendImmediate` (R134, R124). -/
def execEncSendImmediate (s : State) : Out :=
  appendCommand (.ok (encSendImmediate s.params)) s

/-- `ENC.WaitOnHigh` (R135, R124). -/
def execEncWaitOnHigh (s : State) : Out :=
  appendCommand (.ok (encWaitOnHigh s.params)) s

/-- `ENC.WaitOnLow` (R136, R124). -/
def execEncWaitOnLow (s : State) : Out :=
  appendCommand (.ok (encWaitOnLow s.params)) s

/-- `ENC.SetDataBitsLow` (R137, R124). -/
def execEncSetDataBitsLow (val dir : Byte) (s : State) : Out :=
  appendCommand (.ok (encSetDataBitsLow s.params val dir)) s

/-- `ENC.SetDataBitsHigh` (R138, R124). -/
def execEncSetDataBitsHigh (val dir : Byte) (s : State) : Out :=
  appendCommand (.ok (encSetDataBitsHigh s.params val dir)) s

/-- `ENC.ReadDataBitsLow` (R139, R124). -/
def execEncReadDataBitsLow (s : State) : Out :=
  appendCommand (.ok (encReadDataBitsLow s.params)) s

/-- `ENC.ReadDataBitsHigh` (R140, R124). -/
def execEncReadDataBitsHigh (s : State) : Out :=
  appendCommand (.ok (encReadDataBitsHigh s.params)) s

/-- `ENC.BytesOutPlusMsb` (R141, R124). -/
def execEncBytesOutPlusMsb (payload : Bytes) (off len : Option Nat) (s : State) : Out :=
  appendCommand (encBytesOutPlusMsb s.params payload (offsetOf off) (lengthOf payload off len)) s

/-- `ENC.BytesOutMinusMsb` (R142, R124). -/
def execEncBytesOutMinusMsb (payload : Bytes) (off len : Option Nat) (s : State) : Out :=
  appendCommand (encBytesOutMinusMsb s.params payload (offsetOf off) (lengthOf payload off len)) s

/-- `ENC.BytesOutPlusLsb` (R143, R124). -/
def execEncBytesOutPlusLsb (payload : Bytes) (off len : Option Nat) (s : State) : Out :=
  appendCommand (encBytesOutPlusLsb s.params payload (offsetOf off) (lengthOf payload off len)) s

/-- `ENC.BytesOutMinusLsb` (R144, R124). -/
def execEncBytesOutMinusLsb (payload : Bytes) (off len : Option Nat) (s : State) : Out :=
  appendCommand (encBytesOutMinusLsb s.params payload (offsetOf off) (lengthOf payload off len)) s

/-- `ENC.BytesInPlusMsb` (R145, R124). -/
def execEncBytesInPlusMsb (len : Nat) (s : State) : Out :=
  appendCommand (encBytesInPlusMsb s.params len) s

/-- `ENC.BytesInMinusMsb` (R146, R124). -/
def execEncBytesInMinusMsb (len : Nat) (s : State) : Out :=
  appendCommand (encBytesInMinusMsb s.params len) s

/-- `ENC.BytesInPlusLsb` (R147, R124). -/
def execEncBytesInPlusLsb (len : Nat) (s : State) : Out :=
  appendCommand (encBytesInPlusLsb s.params len) s

/-- `ENC.BytesInMinusLsb` (R148, R124). -/
def execEncBytesInMinusLsb (len : Nat) (s : State) : Out :=
  appendCommand (encBytesInMinusLsb s.params len) s

/-- `ENC.BytesInPlusOutMinusMsb` (R149, R124). -/
def execEncBytesInPlusOutMinusMsb (payload : Bytes) (off len : Option Nat) (s : State) : Out :=
  appendCommand (encBytesInPlusOutMinusMsb s.params payload (offsetOf off) (lengthOf payload off len)) s

/-- `ENC.BytesInMinusOutPlusMsb` (R150, R124). -/
def execEncBytesInMinusOutPlusMsb (payload : Bytes) (off len : Option Nat) (s : State) : Out :=
  appendCommand (encBytesInMinusOutPlusMsb s.params payload (offsetOf off) (lengthOf payload off len)) s

/-- `ENC.BytesInPlusOutMinusLsb` (R151, R124). -/
def execEncBytesInPlusOutMinusLsb (payload : Bytes) (off len : Option Nat) (s : State) : Out :=
  appendCommand (encBytesInPlusOutMinusLsb s.params payload (offsetOf off) (lengthOf payload off len)) s

/-- `ENC.BytesInMinusOutPlusLsb` (R152, R124). -/
def execEncBytesInMinusOutPlusLsb (payload : Bytes) (off len : Option Nat) (s : State) : Out :=
  appendCommand (encBytesInMinusOutPlusLsb s.params payload (offsetOf off) (lengthOf payload off len)) s

/-- `ENC.BitsOutPlusMsb` (R153, R124). -/
def execEncBitsOutPlusMsb (data : Byte) (count : Nat) (s : State) : Out :=
  appendCommand (encBitsOutPlusMsb s.params data count) s

/-- `ENC.BitsOutMinusMsb` (R154, R124). -/
def execEncBitsOutMinusMsb (data : Byte) (count : Nat) (s : State) : Out :=
  appendCommand (encBitsOutMinusMsb s.params data count) s

/-- `ENC.BitsOutPlusLsb` (R155, R124). -/
def execEncBitsOutPlusLsb (data : Byte) (count : Nat) (s : State) : Out :=
  appendCommand (encBitsOutPlusLsb s.params data count) s

/-- `ENC.BitsOutMinusLsb` (R156, R124). -/
def execEncBitsOutMinusLsb (data : Byte) (count : Nat) (s : State) : Out :=
  appendCommand (encBitsOutMinusLsb s.params data count) s

/-- `ENC.BitsInPlusMsb` (R157, R124). -/
def execEncBitsInPlusMsb (count : Nat) (s : State) : Out :=
  appendCommand (encBitsInPlusMsb s.params count) s

/-- `ENC.BitsInMinusMsb` (R158, R124). -/
def execEncBitsInMinusMsb (count : Nat) (s : State) : Out :=
  appendCommand (encBitsInMinusMsb s.params count) s

/-- `ENC.BitsInPlusLsb` (R159, R124). -/
def execEncBitsInPlusLsb (count : Nat) (s : State) : Out :=
  appendCommand (encBitsInPlusLsb s.params count) s

/-- `ENC.BitsInMinusLsb` (R160, R124). -/
def execEncBitsInMinusLsb (count : Nat) (s : State) : Out :=
  appendCommand (encBitsInMinusLsb s.params count) s

/-- `ENC.BitsInPlusOutMinusMsb` (R161, R124). -/
def execEncBitsInPlusOutMinusMsb (data : Byte) (count : Nat) (s : State) : Out :=
  appendCommand (encBitsInPlusOutMinusMsb s.params data count) s

/-- `ENC.BitsInMinusOutPlusMsb` (R162, R124). -/
def execEncBitsInMinusOutPlusMsb (data : Byte) (count : Nat) (s : State) : Out :=
  appendCommand (encBitsInMinusOutPlusMsb s.params data count) s

/-- `ENC.BitsInPlusOutMinusLsb` (R163, R124). -/
def execEncBitsInPlusOutMinusLsb (data : Byte) (count : Nat) (s : State) : Out :=
  appendCommand (encBitsInPlusOutMinusLsb s.params data count) s

/-- `ENC.BitsInMinusOutPlusLsb` (R164, R124). -/
def execEncBitsInMinusOutPlusLsb (data : Byte) (count : Nat) (s : State) : Out :=
  appendCommand (encBitsInMinusOutPlusLsb s.params data count) s

end Sys2Proof.Machine
end

