-- ==== Sys2Proof/Machine/I2c.lean ====
section
/-! DEFINITION. The I2C unit (41_i2c.md): the named byte sequences (R182, R186 to R193), the steps the requests are
composed of (R183, R194 to R198, R200), and the twelve requests with the state each is allowed in (R184, R207). -/

namespace Sys2Proof.Machine

/-! ## The named sequences -/

/-- `rep(k, s)` (R14). -/
def rep (k : Nat) (bs : Bytes) : Bytes :=
  match k with
  | 0 => []
  | n + 1 => bs ++ rep n bs

/-- `hold(ls)` (R182). -/
def hold (p : Params) (ls : LineState) : Bytes := encSetDataBitsLow p (p.line.pins ls).val (p.line.pins ls).dir

/-- `I2C_INIT_SEQ(div)` (R186). -/
def i2cInitSeq (p : Params) (div : Half) : Bytes :=
  encClkDiv5Disable p ++ encAdaptiveDisable p ++ encThreePhaseEnable p ++ encSetClockDivisor p div ++
  encLoopbackDisconnect p ++ hold p .idle

/-- `I2C_START_SEQ` (R188). -/
def i2cStartSeq (s : State) : Bytes :=
  rep s.i2c.tStart1.toNat (hold s.params .hh) ++ rep s.i2c.tStart2.toNat (hold s.params .chDl) ++ hold s.params .ll

/-- `I2C_STOP_SEQ` (R189). -/
def i2cStopSeq (s : State) : Bytes :=
  rep s.i2c.tStop1.toNat (hold s.params .ll) ++ rep s.i2c.tStop2.toNat (hold s.params .chDl) ++
  rep s.i2c.tStop3.toNat (hold s.params .idle)

/-- `I2C_OUT_SEQ(b)` (R190). -/
def i2cOutSeq (p : Params) (b : Byte) : Bytes :=
  hold p .ll ++ legalBytes (encBytesOutMinusMsb p [b] 0 1) ++ hold p .clDr ++ legalBytes (encBitsInPlusMsb p 1)

/-- `I2C_IN_SEQ(a)` (R192). -/
def i2cInSeq (p : Params) (a : Bool) : Bytes :=
  hold p .clDr ++ legalBytes (encBytesInPlusMsb p 1) ++ hold p .ll ++
  legalBytes (encBitsOutMinusMsb p (ackByte a) 1)

/-! ## Steps -/

/-- `open`: `I2C_FSM ∈ {Started, ByteOut, ByteIn}` (R184). -/
def fsmOpen (f : Fsm) : Bool := f == .started || f == .byteOut || f == .byteIn

/-- `I2C_FSM <- f`. -/
def goTo (f : Fsm) : Req Unit := update fun s => s.setFsm f

/-- `on failure: I2C_FSM <- Idle` (R205). -/
def idleOnFailure {α : Type} (m : Req α) : Req α := onFailure m fun s => s.setFsm .idle

/-- `flush_expect(n)` (R183). -/
def flushExpect (n : Nat) : Req Bytes :=
  andThen (update fun s => if n ≥ 1 ∧ s.params.sendImmediate then s.enqueue (encSendImmediate s.params) else s) fun _ =>
  andThen executeBuffer fun _ => read n

/-- The steps of I2C.Start (R194). -/
def i2cStart : Req Unit :=
  andThen (update fun s => s.enqueue (i2cStartSeq s)) fun _ => goTo .started

/-- The steps of I2C.Stop (R195). -/
def i2cStop : Req Unit :=
  andThen (update fun s => s.enqueue (i2cStopSeq s)) fun _ =>
  andThen (goTo .stopped) fun _ =>
  andThen (idleOnFailure executeBuffer) fun _ => goTo .idle

/-- The steps of I2C.SendByte (R196). -/
def i2cSendByte (b : Byte) : Req Bool :=
  andThen (update fun s => s.enqueue (i2cOutSeq s.params b)) fun _ =>
  andThen (goTo .byteOut) fun _ =>
  andThen (idleOnFailure (flushExpect 1)) fun r => ret (acked (r.headD 0))

/-- The steps of I2C.SendAddress (R197). -/
def i2cSendAddress (a7 : Addr7) (rw : Bit) : Req Bool := i2cSendByte (frame a7 rw)

/-- The steps of I2C.ReceiveByte (R198). -/
def i2cReceiveByte (a : Bool) : Req Byte :=
  andThen (update fun s => s.enqueue (i2cInSeq s.params a)) fun _ =>
  andThen (goTo .byteIn) fun _ =>
  andThen (idleOnFailure (flushExpect 1)) fun r => ret (r.headD 0)

/-- `nack_abort(k)` (R200). -/
def nackAbort {α : Type} (k : Nat) : Req α := andThen i2cStop fun _ => raise (.protocolNack k)

/-- `if not ack then nack_abort(k)` (R201, R202). -/
def expectAck (k : Nat) (m : Req Bool) : Req Unit :=
  andThen m fun ack => if ack then ret () else nackAbort k

/-- The data bytes of I2C.Write, the first of them being byte-out `k` of the transaction (R201). -/
def i2cWriteData (k : Nat) (data : Bytes) : Req Unit :=
  match data with
  | [] => ret ()
  | b :: rest =>
    andThen (i2cSendByte b) fun ack =>
    withState fun s =>
      if !ack && s.params.checkDataAck then nackAbort k else i2cWriteData (k + 1) rest

/-- The data bytes of I2C.Read: ACK every byte but the last, NACK the last (R202). -/
def i2cReadData (n : Nat) : Req Bytes :=
  match n with
  | 0 => ret []
  | m + 1 =>
    andThen (i2cReceiveByte (decide (0 < m))) fun b =>
    andThen (i2cReadData m) fun rest => ret (b :: rest)

/-- The probe of one address (R199). -/
def i2cProbe (a : Addr7) : Req Bool :=
  andThen i2cStart fun _ =>
  andThen (i2cSendAddress a .zero) fun ack =>
  andThen i2cStop fun _ => ret ack

/-- The probes of `count` addresses from `a` on, and those that acknowledged (R199). -/
def i2cScanFrom (a count : Nat) : Req (List Addr7) :=
  match count with
  | 0 => ret []
  | n + 1 =>
    andThen (i2cProbe (BitVec.ofNat 7 a)) fun ack =>
    andThen (i2cScanFrom (a + 1) n) fun found =>
    ret (if ack then BitVec.ofNat 7 a :: found else found)

/-- The bytes of I2C.FastWrite up to its SendImmediate (R203). -/
def fastWriteSeq (s : State) (a7 : Addr7) (reg : Byte) (data : Bytes) : Bytes :=
  i2cStartSeq s ++ i2cOutSeq s.params (frame a7 .zero) ++ i2cOutSeq s.params reg ++
  data.flatMap (i2cOutSeq s.params) ++ i2cStopSeq s

/-- `I2C_IN_SEQ(0 < n-1) ++ ... ++ I2C_IN_SEQ(n-1 < n-1)` (R204). -/
def inSeqs (p : Params) (n : Nat) : Bytes :=
  match n with
  | 0 => []
  | m + 1 => i2cInSeq p (decide (0 < m)) ++ inSeqs p m

/-- The bytes of I2C.FastRead up to its SendImmediate (R204). -/
def fastReadSeq (s : State) (a7 : Addr7) (reg : Byte) (n : Nat) : Bytes :=
  i2cStartSeq s ++ i2cOutSeq s.params (frame a7 .zero) ++ i2cOutSeq s.params reg ++
  i2cStartSeq s ++ i2cOutSeq s.params (frame a7 .one) ++ inSeqs s.params n ++ i2cStopSeq s

/-- One batch, STOP included, flushed once, and its `n` response bytes (R203, R204). -/
def fastBatch (seq : State → Bytes) (n : Nat) : Req Bytes :=
  andThen (update fun s => s.enqueue (seq s)) fun _ =>
  andThen (goTo .stopped) fun _ =>
  andThen (idleOnFailure (flushExpect n)) fun r =>
  andThen (goTo .idle) fun _ => ret r

/-- `if K is not empty then raise ProtocolNack(min K)` (R203, R204). -/
def raiseNack (k : Option Nat) : Req Unit :=
  match k with
  | none => ret ()
  | some j => raise (.protocolNack j)

/-! ## Requests -/

/-- I2C.Init (R186): allowed in any state. -/
def execI2cInit (div : Half) (t1 t2 t3 t4 t5 : Nat) (s : State) : Out :=
  complete
    (if legalTiming t1 t2 t3 t4 t5 then
      andThen (update fun s =>
        (((s.setI2cClkdiv div).setTiming t1 t2 t3 t4 t5).setFsm .idle).enqueue (i2cInitSeq s.params div)) fun _ =>
      andThen (onFailure executeBuffer fun s => s.setI2cReady false) fun _ =>
      andThen (update fun s => s.setI2cReady true) fun _ => ret .unit
    else raise .invalidArgument) s

/-- I2C.SetTiming (R187): any `I2C_FSM` state. -/
def execI2cSetTiming (t1 t2 t3 t4 t5 : Nat) (s : State) : Out :=
  i2cRequest (fun _ => true)
    (if legalTiming t1 t2 t3 t4 t5 then
      andThen (update fun s => s.setTiming t1 t2 t3 t4 t5) fun _ => ret .unit
    else raise .invalidArgument) s

/-- I2C.Start (R194): Idle or open. -/
def execI2cStart (s : State) : Out :=
  i2cRequest (fun f => f == .idle || fsmOpen f) (andThen i2cStart fun _ => ret .unit) s

/-- I2C.Stop (R195): open. -/
def execI2cStop (s : State) : Out :=
  i2cRequest fsmOpen (andThen i2cStop fun _ => ret .unit) s

/-- I2C.SendByte (R196): open. -/
def execI2cSendByte (b : Byte) (s : State) : Out :=
  i2cRequest fsmOpen (andThen (i2cSendByte b) fun ack => ret (.bool ack)) s

/-- I2C.SendAddress (R197): only directly after a START. -/
def execI2cSendAddress (a7 : Addr7) (rw : Bit) (s : State) : Out :=
  i2cRequest (fun f => f == .started) (andThen (i2cSendAddress a7 rw) fun ack => ret (.bool ack)) s

/-- I2C.ReceiveByte (R198): open. -/
def execI2cReceiveByte (a : Bool) (s : State) : Out :=
  i2cRequest fsmOpen (andThen (i2cReceiveByte a) fun b => ret (.byte b)) s

/-- I2C.Scan (R199): Idle. -/
def execI2cScan (s : State) : Out :=
  i2cRequest (fun f => f == .idle) (andThen (i2cScanFrom 1 126) fun found => ret (.addresses found)) s

/-- I2C.Write (R201): Idle. -/
def execI2cWrite (a7 : Addr7) (reg : Byte) (data : Bytes) (s : State) : Out :=
  i2cRequest (fun f => f == .idle)
    (andThen i2cStart fun _ =>
     andThen (expectAck 0 (i2cSendAddress a7 .zero)) fun _ =>
     andThen (expectAck 1 (i2cSendByte reg)) fun _ =>
     andThen (i2cWriteData 2 data) fun _ =>
     andThen i2cStop fun _ => ret .unit) s

/-- I2C.Read (R202): Idle. -/
def execI2cRead (a7 : Addr7) (reg : Byte) (n : Nat) (s : State) : Out :=
  i2cRequest (fun f => f == .idle)
    (if n < 1 then raise .invalidArgument
     else
      andThen i2cStart fun _ =>
      andThen (expectAck 0 (i2cSendAddress a7 .zero)) fun _ =>
      andThen (expectAck 1 (i2cSendByte reg)) fun _ =>
      andThen i2cStart fun _ =>
      andThen (expectAck 2 (i2cSendAddress a7 .one)) fun _ =>
      andThen (i2cReadData n) fun data =>
      andThen i2cStop fun _ => ret (.bytes data)) s

/-- I2C.FastWrite (R203): Idle. -/
def execI2cFastWrite (a7 : Addr7) (reg : Byte) (data : Bytes) (s : State) : Out :=
  i2cRequest (fun f => f == .idle)
    (andThen (fastBatch (fun s => fastWriteSeq s a7 reg data) (2 + data.length)) fun r =>
     withState fun s =>
     andThen (raiseNack (firstNack (fun j => decide (j < 2) || s.params.checkDataAck) 0 r)) fun _ => ret .unit) s

/-- I2C.FastRead (R204): Idle. -/
def execI2cFastRead (a7 : Addr7) (reg : Byte) (n : Nat) (s : State) : Out :=
  i2cRequest (fun f => f == .idle)
    (if n < 1 then raise .invalidArgument
     else
      andThen (fastBatch (fun s => fastReadSeq s a7 reg n) (3 + n)) fun r =>
      andThen (raiseNack (firstNack (fun j => decide (j < 3)) 0 r)) fun _ => ret (.bytes (r.drop 3))) s

end Sys2Proof.Machine
end

