-- ==== Sys2Proof/Machine/Transport.lean ====
section
/-! DEFINITION. The XP requests (44_transport_ops.md R290 to R296): the seven operations of the transport handed to the
requester unchanged. They need no Init and are never refused (R297). -/

namespace Sys2Proof.Machine

/-- XP.Enqueue (R290): the bytes are not inspected. -/
def execXpEnqueue (bytes : Bytes) (s : State) : Out :=
  complete (andThen (enqueue bytes) fun _ => ret .unit) s

/-- XP.Execute (R291). -/
def execXpExecute (s : State) : Out :=
  complete (andThen executeBuffer fun _ => ret .unit) s

/-- XP.Read (R292). -/
def execXpRead (n : Nat) (s : State) : Out :=
  complete (andThen (read n) fun r => ret (.bytes r)) s

/-- XP.ClearInput (R293). -/
def execXpClearInput (s : State) : Out :=
  complete (andThen clearInput fun _ => ret .unit) s

/-- XP.ClearOutput (R294): the cached levels and `I2C_FSM` are not rolled back. -/
def execXpClearOutput (s : State) : Out :=
  complete (andThen clearOutput fun _ => ret .unit) s

/-- XP.SetClockDivisor (R295). -/
def execXpSetClockDivisor (d : Half) (s : State) : Out :=
  complete (andThen (setClockDivisor d) fun _ => ret .unit) s

/-- XP.SetLoopback (R296). -/
def execXpSetLoopback (b : Bool) (s : State) : Out :=
  complete (andThen (loopbackEnabled b) fun _ => ret .unit) s

end Sys2Proof.Machine
end

