-- ==== Sys2Proof/Machine/Dispatch.lean ====
section
/-! DEFINITION. One arm per row of spec/opcode_table.json, each one call of the row's meaning. -/

namespace Sys2Proof.Machine

def exec (i : Instr) (s : State) : Host.Outcome State Fault Refusal :=
  match i with
  -- engine commands, function form (R125 to R164)
  | .setClockDivisor div => Sys2Proof.Machine.execSetClockDivisor div s
  | .clkDiv5Disable => Sys2Proof.Machine.execClkDiv5Disable s
  | .clkDiv5Enable => Sys2Proof.Machine.execClkDiv5Enable s
  | .threePhaseEnable => Sys2Proof.Machine.execThreePhaseEnable s
  | .threePhaseDisable => Sys2Proof.Machine.execThreePhaseDisable s
  | .adaptiveEnable => Sys2Proof.Machine.execAdaptiveEnable s
  | .adaptiveDisable => Sys2Proof.Machine.execAdaptiveDisable s
  | .loopbackConnect => Sys2Proof.Machine.execLoopbackConnect s
  | .loopbackDisconnect => Sys2Proof.Machine.execLoopbackDisconnect s
  | .sendImmediate => Sys2Proof.Machine.execSendImmediate s
  | .waitOnHigh => Sys2Proof.Machine.execWaitOnHigh s
  | .waitOnLow => Sys2Proof.Machine.execWaitOnLow s
  | .setDataBitsLow val dir => Sys2Proof.Machine.execSetDataBitsLow val dir s
  | .setDataBitsHigh val dir => Sys2Proof.Machine.execSetDataBitsHigh val dir s
  | .readDataBitsLow => Sys2Proof.Machine.execReadDataBitsLow s
  | .readDataBitsHigh => Sys2Proof.Machine.execReadDataBitsHigh s
  | .bytesOutPlusMsb payload off len => Sys2Proof.Machine.execBytesOutPlusMsb payload off len s
  | .bytesOutMinusMsb payload off len => Sys2Proof.Machine.execBytesOutMinusMsb payload off len s
  | .bytesOutPlusLsb payload off len => Sys2Proof.Machine.execBytesOutPlusLsb payload off len s
  | .bytesOutMinusLsb payload off len => Sys2Proof.Machine.execBytesOutMinusLsb payload off len s
  | .bytesInPlusMsb len => Sys2Proof.Machine.execBytesInPlusMsb len s
  | .bytesInMinusMsb len => Sys2Proof.Machine.execBytesInMinusMsb len s
  | .bytesInPlusLsb len => Sys2Proof.Machine.execBytesInPlusLsb len s
  | .bytesInMinusLsb len => Sys2Proof.Machine.execBytesInMinusLsb len s
  | .bytesInPlusOutMinusMsb payload off len => Sys2Proof.Machine.execBytesInPlusOutMinusMsb payload off len s
  | .bytesInMinusOutPlusMsb payload off len => Sys2Proof.Machine.execBytesInMinusOutPlusMsb payload off len s
  | .bytesInPlusOutMinusLsb payload off len => Sys2Proof.Machine.execBytesInPlusOutMinusLsb payload off len s
  | .bytesInMinusOutPlusLsb payload off len => Sys2Proof.Machine.execBytesInMinusOutPlusLsb payload off len s
  | .bitsOutPlusMsb data count => Sys2Proof.Machine.execBitsOutPlusMsb data count s
  | .bitsOutMinusMsb data count => Sys2Proof.Machine.execBitsOutMinusMsb data count s
  | .bitsOutPlusLsb data count => Sys2Proof.Machine.execBitsOutPlusLsb data count s
  | .bitsOutMinusLsb data count => Sys2Proof.Machine.execBitsOutMinusLsb data count s
  | .bitsInPlusMsb count => Sys2Proof.Machine.execBitsInPlusMsb count s
  | .bitsInMinusMsb count => Sys2Proof.Machine.execBitsInMinusMsb count s
  | .bitsInPlusLsb count => Sys2Proof.Machine.execBitsInPlusLsb count s
  | .bitsInMinusLsb count => Sys2Proof.Machine.execBitsInMinusLsb count s
  | .bitsInPlusOutMinusMsb data count => Sys2Proof.Machine.execBitsInPlusOutMinusMsb data count s
  | .bitsInMinusOutPlusMsb data count => Sys2Proof.Machine.execBitsInMinusOutPlusMsb data count s
  | .bitsInPlusOutMinusLsb data count => Sys2Proof.Machine.execBitsInPlusOutMinusLsb data count s
  | .bitsInMinusOutPlusLsb data count => Sys2Proof.Machine.execBitsInMinusOutPlusLsb data count s
  -- ENC requests (R124)
  | .encSetClockDivisor div => Sys2Proof.Machine.execEncSetClockDivisor div s
  | .encClkDiv5Disable => Sys2Proof.Machine.execEncClkDiv5Disable s
  | .encClkDiv5Enable => Sys2Proof.Machine.execEncClkDiv5Enable s
  | .encThreePhaseEnable => Sys2Proof.Machine.execEncThreePhaseEnable s
  | .encThreePhaseDisable => Sys2Proof.Machine.execEncThreePhaseDisable s
  | .encAdaptiveEnable => Sys2Proof.Machine.execEncAdaptiveEnable s
  | .encAdaptiveDisable => Sys2Proof.Machine.execEncAdaptiveDisable s
  | .encLoopbackConnect => Sys2Proof.Machine.execEncLoopbackConnect s
  | .encLoopbackDisconnect => Sys2Proof.Machine.execEncLoopbackDisconnect s
  | .encSendImmediate => Sys2Proof.Machine.execEncSendImmediate s
  | .encWaitOnHigh => Sys2Proof.Machine.execEncWaitOnHigh s
  | .encWaitOnLow => Sys2Proof.Machine.execEncWaitOnLow s
  | .encSetDataBitsLow val dir => Sys2Proof.Machine.execEncSetDataBitsLow val dir s
  | .encSetDataBitsHigh val dir => Sys2Proof.Machine.execEncSetDataBitsHigh val dir s
  | .encReadDataBitsLow => Sys2Proof.Machine.execEncReadDataBitsLow s
  | .encReadDataBitsHigh => Sys2Proof.Machine.execEncReadDataBitsHigh s
  | .encBytesOutPlusMsb payload off len => Sys2Proof.Machine.execEncBytesOutPlusMsb payload off len s
  | .encBytesOutMinusMsb payload off len => Sys2Proof.Machine.execEncBytesOutMinusMsb payload off len s
  | .encBytesOutPlusLsb payload off len => Sys2Proof.Machine.execEncBytesOutPlusLsb payload off len s
  | .encBytesOutMinusLsb payload off len => Sys2Proof.Machine.execEncBytesOutMinusLsb payload off len s
  | .encBytesInPlusMsb len => Sys2Proof.Machine.execEncBytesInPlusMsb len s
  | .encBytesInMinusMsb len => Sys2Proof.Machine.execEncBytesInMinusMsb len s
  | .encBytesInPlusLsb len => Sys2Proof.Machine.execEncBytesInPlusLsb len s
  | .encBytesInMinusLsb len => Sys2Proof.Machine.execEncBytesInMinusLsb len s
  | .encBytesInPlusOutMinusMsb payload off len => Sys2Proof.Machine.execEncBytesInPlusOutMinusMsb payload off len s
  | .encBytesInMinusOutPlusMsb payload off len => Sys2Proof.Machine.execEncBytesInMinusOutPlusMsb payload off len s
  | .encBytesInPlusOutMinusLsb payload off len => Sys2Proof.Machine.execEncBytesInPlusOutMinusLsb payload off len s
  | .encBytesInMinusOutPlusLsb payload off len => Sys2Proof.Machine.execEncBytesInMinusOutPlusLsb payload off len s
  | .encBitsOutPlusMsb data count => Sys2Proof.Machine.execEncBitsOutPlusMsb data count s
  | .encBitsOutMinusMsb data count => Sys2Proof.Machine.execEncBitsOutMinusMsb data count s
  | .encBitsOutPlusLsb data count => Sys2Proof.Machine.execEncBitsOutPlusLsb data count s
  | .encBitsOutMinusLsb data count => Sys2Proof.Machine.execEncBitsOutMinusLsb data count s
  | .encBitsInPlusMsb count => Sys2Proof.Machine.execEncBitsInPlusMsb count s
  | .encBitsInMinusMsb count => Sys2Proof.Machine.execEncBitsInMinusMsb count s
  | .encBitsInPlusLsb count => Sys2Proof.Machine.execEncBitsInPlusLsb count s
  | .encBitsInMinusLsb count => Sys2Proof.Machine.execEncBitsInMinusLsb count s
  | .encBitsInPlusOutMinusMsb data count => Sys2Proof.Machine.execEncBitsInPlusOutMinusMsb data count s
  | .encBitsInMinusOutPlusMsb data count => Sys2Proof.Machine.execEncBitsInMinusOutPlusMsb data count s
  | .encBitsInPlusOutMinusLsb data count => Sys2Proof.Machine.execEncBitsInPlusOutMinusLsb data count s
  | .encBitsInMinusOutPlusLsb data count => Sys2Proof.Machine.execEncBitsInMinusOutPlusLsb data count s
  -- I2C, SPI, DC and XP requests (R104)
  | .i2cInit div t1 t2 t3 t4 t5 => Sys2Proof.Machine.execI2cInit div t1 t2 t3 t4 t5 s
  | .i2cSetTiming t1 t2 t3 t4 t5 => Sys2Proof.Machine.execI2cSetTiming t1 t2 t3 t4 t5 s
  | .i2cStart => Sys2Proof.Machine.execI2cStart s
  | .i2cStop => Sys2Proof.Machine.execI2cStop s
  | .i2cSendByte b => Sys2Proof.Machine.execI2cSendByte b s
  | .i2cSendAddress a7 rw => Sys2Proof.Machine.execI2cSendAddress a7 rw s
  | .i2cReceiveByte a => Sys2Proof.Machine.execI2cReceiveByte a s
  | .i2cScan => Sys2Proof.Machine.execI2cScan s
  | .i2cWrite a7 reg data => Sys2Proof.Machine.execI2cWrite a7 reg data s
  | .i2cRead a7 reg n => Sys2Proof.Machine.execI2cRead a7 reg n s
  | .i2cFastWrite a7 reg data => Sys2Proof.Machine.execI2cFastWrite a7 reg data s
  | .i2cFastRead a7 reg n => Sys2Proof.Machine.execI2cFastRead a7 reg n s
  | .spiInit mode order csPin policy lowVal lowDir => Sys2Proof.Machine.execSpiInit mode order csPin policy lowVal lowDir s
  | .spiSetCsLevel level => Sys2Proof.Machine.execSpiSetCsLevel level s
  | .spiEnable => Sys2Proof.Machine.execSpiEnable s
  | .spiDisable => Sys2Proof.Machine.execSpiDisable s
  | .spiWrite payload => Sys2Proof.Machine.execSpiWrite payload s
  | .spiTransfer payload => Sys2Proof.Machine.execSpiTransfer payload s
  | .dcInit mode order csPin policy lowVal lowDir dcPin rstPin highVal highDir => Sys2Proof.Machine.execDcInit mode order csPin policy lowVal lowDir dcPin rstPin highVal highDir s
  | .dcSetDcLevel isCommand => Sys2Proof.Machine.execDcSetDcLevel isCommand s
  | .dcWrite payload isCommand => Sys2Proof.Machine.execDcWrite payload isCommand s
  | .dcTransfer payload isCommand => Sys2Proof.Machine.execDcTransfer payload isCommand s
  | .dcCommandStream buf => Sys2Proof.Machine.execDcCommandStream buf s
  | .dcResetDance => Sys2Proof.Machine.execDcResetDance s
  | .dcResetTimed ms1 ms2 => Sys2Proof.Machine.execDcResetTimed ms1 ms2 s
  | .xpEnqueue bytes => Sys2Proof.Machine.execXpEnqueue bytes s
  | .xpExecute => Sys2Proof.Machine.execXpExecute s
  | .xpRead n => Sys2Proof.Machine.execXpRead n s
  | .xpClearInput => Sys2Proof.Machine.execXpClearInput s
  | .xpClearOutput => Sys2Proof.Machine.execXpClearOutput s
  | .xpSetClockDivisor d => Sys2Proof.Machine.execXpSetClockDivisor d s
  | .xpSetLoopback b => Sys2Proof.Machine.execXpSetLoopback b s

end Sys2Proof.Machine
end

