-- ==== Sys2Proof/Machine/Ports.lean ====
section
/-! DEFINITION. What is presented to the block, and how the next of it is taken. The request port takes the 72 select
codes of 30_encoding.md R104 and no other. The pure functions of ENC (40_encoder.md R120, R122) are no requests: a call
of one stands at `encPort`, and is answered before the next request is accepted (log 2, log 3). -/

namespace Sys2Proof.Machine

/-- The refusal of bytes that are not a request, or not an engine command (R104, log 1, log 3). -/
def refusalOf (e : DecodeError) : Refusal :=
  match e with
  | .reservedCode code => .reservedCode code
  | .unknownOpcode opcode => .unknownOpcode opcode
  | .truncated => .truncatedRequest
  | .malformed => .malformedOperand

/-- The request port after a request is accepted: the bytes presented after it. -/
def State.accept (s : State) (rest : Bytes) : State := { s with port := rest }

/-- The function interface after a call is taken: the calls made after it. -/
def State.takeCall (s : State) (rest : Bytes) : State := { s with encPort := rest }

/-- What the block takes next. -/
inductive Taken where
  /-- Nothing is presented (R330). -/
  | nothing
  /-- An instruction, and the state with it taken off its port. -/
  | instr (i : Instr) (s : State)
  /-- Bytes that are no instruction. -/
  | unreadable (e : DecodeError)
  deriving DecidableEq, Repr

/-- The next request at the request port (R104). -/
def takeRequest (s : State) : Taken :=
  match decodeRequest s.port with
  | .error e => .unreadable e
  | .ok (i, rest) => .instr i (s.accept rest)

/-- The next call at the function interface (R120). -/
def takeFunctionCall (s : State) : Taken :=
  match decodeCommand s.encPort with
  | .error e => .unreadable e
  | .ok (i, rest) => .instr i (s.takeCall rest)

/-- A function call that waits, else a request that waits, else nothing. -/
def takeNext (s : State) : Taken :=
  match s.encPort, s.port with
  | [], [] => .nothing
  | [], _ :: _ => takeRequest s
  | _ :: _, _ => takeFunctionCall s

/-- The state with a word of the opcode table presented where `takeNext` takes it: a call of an engine command's
function at `encPort`, a request at `port` with no call before it. -/
def State.present (s : State) (bytes : Bytes) : State :=
  { s with
    port := if isCommandWord bytes then s.port else bytes
    encPort := if isCommandWord bytes then bytes else [] }

end Sys2Proof.Machine
end

