-- ==== Sys2Proof/Machine/Step.lean ====
section
/-! DEFINITION. One step: the block takes what is presented next and carries it out (00_scope.md R7, R8), or waits while
nothing is presented (70_reset_and_hazards.md R330). There is no program counter and no fetch (10_state.md R21): the
bytes of the requests presented stand at `port`, the next one first, and the calls of ENC's pure functions at `encPort`
(log 2, log 3). -/

namespace Sys2Proof.Machine

/-- One request or function call, whole (R7); with none presented the block waits (R330, R312). -/
def step (s : State) : Host.Outcome State Fault Refusal :=
  match takeNext s with
  | .nothing => .next s
  | .unreadable e => .refused (refusalOf e)
  | .instr i s' => exec i s'

/-- The state with an instruction of the opcode table presented (log 2, log 3). -/
def State.withFetchWord (s : State) (nbits w : Nat) : State := s.present (tableBytes nbits w)

end Sys2Proof.Machine
end

