-- ==== Sys2Proof/Safety.lean ====
section
/-! DEFINITION. The terms claims use: the family of a request, the invariant of the registers, when the response bytes
are accounted for, and when a run goes on. -/

namespace Sys2Proof.Machine

/-- The units of R2, with the function form of an engine command (R120) beside the requests of ENC. -/
inductive Family where
  | function
  | enc
  | i2c
  | spi
  | dc
  | xp
  deriving DecidableEq, Repr

/-- The family of an operation (R104). -/
def familyOf (o : Op) : Family :=
  match o with
  | .command _ => .function
  | .enc _ => .enc
  | .i2cInit | .i2cSetTiming | .i2cStart | .i2cStop | .i2cSendByte | .i2cSendAddress | .i2cReceiveByte | .i2cScan
  | .i2cWrite | .i2cRead | .i2cFastWrite | .i2cFastRead => .i2c
  | .spiInit | .spiSetCsLevel | .spiEnable | .spiDisable | .spiWrite | .spiTransfer => .spi
  | .dcInit | .dcSetDcLevel | .dcWrite | .dcTransfer | .dcCommandStream | .dcResetDance | .dcResetTimed => .dc
  | .xpEnqueue | .xpExecute | .xpRead | .xpClearInput | .xpClearOutput | .xpSetClockDivisor | .xpSetLoopback => .xp

/-- What holds of the registers between two requests: no requester sees `Stopped` (R30); a unit that is not ready has no
transaction open (R29, R184); every timing count is in 1..255 (R32); a ready SPI unit has a legal chip-select mask (R34);
a DC capability that is present belongs to a ready SPI unit and has legal pins (R40 to R42). -/
abbrev State.inv (s : State) : Prop :=
  s.i2c.fsm ≠ .stopped ∧
  (s.i2c.ready = false → s.i2c.fsm = .idle) ∧
  (s.i2c.tStart1 ≠ 0 ∧ s.i2c.tStart2 ≠ 0 ∧ s.i2c.tStop1 ≠ 0 ∧ s.i2c.tStop2 ≠ 0 ∧ s.i2c.tStop3 ≠ 0) ∧
  (s.spi.ready = true → s.spi.csPin ≠ 0 ∧ s.spi.csPin &&& (s.params.pinClk ||| s.params.pinDo ||| s.params.pinDi) = 0) ∧
  (s.dc.present = true → s.spi.ready = true ∧ s.dc.dcPin ≠ 0 ∧ s.dc.dcPin &&& s.dc.rstPin = 0)

/-- The response bytes are accounted for (R75): none waits unread, the delivered bytes are whole commands, and the
bytes awaiting the flush are whole commands that produce none. -/
abbrev State.accounted (s : State) : Prop :=
  s.xp.rxq = [] ∧ (responseTotal s.params s.xp.wire).isSome = true ∧
  responseTotal s.params (s.xp.wire ++ s.xp.cb) = responseTotal s.params s.xp.wire

/-! ## Terms of the statements, spelled out from the rules -/

/-- The bytes of the enable sequence a bracket opens with, from the table of R234. -/
def openBytes (s : State) : Bytes :=
  match s.spi.policy with
  | .activeLow => csCmd s .zero
  | .activeHigh => csCmd s .one
  | .defaultLow => []
  | .defaultHigh => []

/-- The bytes of the disable sequence a bracket closes with, from the table of R234. -/
def closeBytes (s : State) : Bytes :=
  match s.spi.policy with
  | .activeLow => csCmd s .one
  | .activeHigh => csCmd s .zero
  | .defaultLow => []
  | .defaultHigh => []

/-- `CS_LEVEL` once a bracket is open, from the table of R234. -/
def openedLevel (s : State) : Bit :=
  match s.spi.policy with
  | .activeLow => .zero
  | .activeHigh => .one
  | .defaultLow => s.spi.csLevel
  | .defaultHigh => s.spi.csLevel

/-- `CS_LEVEL` after a bracket, from the table of R234. -/
def closedLevel (s : State) : Bit :=
  match s.spi.policy with
  | .activeLow => .one
  | .activeHigh => .zero
  | .defaultLow => s.spi.csLevel
  | .defaultHigh => s.spi.csLevel

/-- The write-only command of the unit's mode and order, from the table of R231. -/
def writeCmd (s : State) : Cmd :=
  match s.spi.mode, s.spi.order with
  | .mode0, .msbFirst => .bytesOutMinusMsb
  | .mode2, .msbFirst => .bytesOutPlusMsb
  | .mode0, .lsbFirst => .bytesOutMinusLsb
  | .mode2, .lsbFirst => .bytesOutPlusLsb

/-- The duplex command of the unit's mode and order, from the table of R231. -/
def duplexCmd (s : State) : Cmd :=
  match s.spi.mode, s.spi.order with
  | .mode0, .msbFirst => .bytesInPlusOutMinusMsb
  | .mode2, .msbFirst => .bytesInMinusOutPlusMsb
  | .mode0, .lsbFirst => .bytesInPlusOutMinusLsb
  | .mode2, .lsbFirst => .bytesInMinusOutPlusLsb

/-- A byte transfer of `bs` as the format of R94 lays it out: opcode, `len - 1` low byte and high byte, the bytes. -/
def transferBytes (p : Params) (c : Cmd) (bs : Bytes) : Bytes :=
  p.opcOf c :: BitVec.ofNat 8 ((bs.length - 1) % 256) :: BitVec.ofNat 8 ((bs.length - 1) / 256) :: bs

/-- The SendImmediate an I2C flush with a read carries, if the parameter says so (R183). -/
def immediateBytes (p : Params) : Bytes := if p.sendImmediate then [p.opcOf .sendImmediate] else []

/-- A response byte that acknowledges: bit 0 is 0 (R190). -/
def isAck (r : Byte) : Bool := r.toNat % 2 == 0

/-- The answers to one flush that succeeds and brings the byte `r`, and to the read that takes it. -/
def byteAnswers (r : Byte) : List Answer := [⟨true, [r]⟩, ⟨true, []⟩]

/-- The answer to a flush that succeeds and brings nothing. -/
def plainAnswer : Answer := ⟨true, []⟩

/-- The byte-outs of a transaction, each flushed with its own SendImmediate (R196, R201). -/
def sentBytes (p : Params) (bs : Bytes) : Bytes := bs.flatMap fun b => i2cOutSeq p b ++ immediateBytes p

/-- The byte-ins of a read of `n` bytes, each flushed with its own SendImmediate, acknowledged but the last (R202). -/
def receivedBytes (p : Params) (n : Nat) : Bytes :=
  (List.range n).flatMap fun i => i2cInSeq p (decide (i + 1 < n)) ++ immediateBytes p

/-- The bytes of one entry of a command stream: the command byte under a command pin command, its arguments, if any,
under a data pin command (R272). -/
def entryBytes (s : State) (buf : Bytes) (e : Nat × Nat) : Bytes :=
  dcCmd s .zero .inactive ++ transferBytes s.params (writeCmd s) ((buf.drop e.1).take 1) ++
  (if e.2 = 0 then []
   else dcCmd s .one .inactive ++ transferBytes s.params (writeCmd s) ((buf.drop (e.1 + 2)).take e.2))

/-- `DC_LEVEL` after a command stream: 0 after an entry without arguments, 1 after one with (R272). -/
def levelAfterStream (s : State) (entries : List (Nat × Nat)) : Bit :=
  match entries.getLast? with
  | none => s.dc.dcLevel
  | some e => if e.2 = 0 then .zero else .one

/-- A flush as a request ends with it: delivered and then `good`, or the buffer lost and TransportFailure (R63, R304). -/
def flushThen (s : State) (good : State → State) : State :=
  if s.answer.ok then good s.flushed else { s.flushLost with resp := .error .transportFailure }

/-- A read of `n` bytes as a request ends with it: the bytes taken and then `good` of them, or TransportFailure
(R64, R304). -/
def readThen (s : State) (n : Nat) (good : Bytes → State → State) : State :=
  if s.answer.ok = true ∧ n ≤ s.xp.rxq.length then good (s.xp.rxq.take n) (s.taken n)
  else { s.readLost with resp := .error .transportFailure }

/-- The I2C failure rule: `I2C_FSM <- Idle` whatever the request did (R205). -/
def idle (s : State) : State := { s with i2c.fsm := .idle }

/-! ## What each request enqueues -/

/-- The sub-range command of a payload operand, `off` default 0 and `L` default `len(payload) - off` (R94, R141). -/
def payloadCommand (p : Params) (c : Cmd) (payload : Bytes) (off len : Option Nat) : Bytes :=
  transferBytes p c ((payload.drop (off.getD 0)).take (len.getD (payload.length - off.getD 0)))

/-- A byte-in command: opcode and `n - 1`, low byte first (R94). -/
def byteInCommand (p : Params) (c : Cmd) (n : Nat) : Bytes :=
  [p.opcOf c, BitVec.ofNat 8 ((n - 1) % 256), BitVec.ofNat 8 ((n - 1) / 256)]

/-- A bit transfer that sends: opcode, `k - 1`, the data byte (R95). -/
def bitOutCommand (p : Params) (c : Cmd) (data : Byte) (k : Nat) : Bytes := [p.opcOf c, BitVec.ofNat 8 (k - 1), data]

/-- A bit-in command: opcode and `k - 1` (R95). -/
def bitInCommand (p : Params) (c : Cmd) (k : Nat) : Bytes := [p.opcOf c, BitVec.ofNat 8 (k - 1)]

/-- The three legs of the header of I2C.Read, each ended by a byte-out whose acknowledgment is tested (R202). -/
def readHeader (s : State) (a7 : Addr7) (reg : Byte) : List Bytes :=
  [i2cStartSeq s ++ sentBytes s.params [frame a7 .zero], sentBytes s.params [reg],
   i2cStartSeq s ++ sentBytes s.params [frame a7 .one]]

/-- The 126 probes of I2C.Scan: START, the address to write, STOP (R199). -/
def scanBytes (s : State) : Bytes :=
  (List.range 126).flatMap fun k =>
    i2cStartSeq s ++ i2cOutSeq s.params (BitVec.ofNat 8 (2 * (k + 1))) ++ immediateBytes s.params ++ i2cStopSeq s

/-- The batch of I2C.FastWrite with its SendImmediate (R203). -/
def fastWriteBytes (s : State) (a7 : Addr7) (reg : Byte) (data : Bytes) : Bytes :=
  (i2cStartSeq s ++ i2cOutSeq s.params (frame a7 .zero) ++ i2cOutSeq s.params reg ++
    data.flatMap (i2cOutSeq s.params) ++ i2cStopSeq s) ++ immediateBytes s.params

/-- The batch of I2C.FastRead with its SendImmediate (R204). -/
def fastReadBytes (s : State) (a7 : Addr7) (reg : Byte) (n : Nat) : Bytes :=
  (i2cStartSeq s ++ i2cOutSeq s.params (frame a7 .zero) ++ i2cOutSeq s.params reg ++
    i2cStartSeq s ++ i2cOutSeq s.params (frame a7 .one) ++
    ((List.range n).flatMap fun i => i2cInSeq s.params (decide (i + 1 < n))) ++ i2cStopSeq s) ++ immediateBytes s.params

/-- The level Init puts chip-select at, from the table of R234. -/
def initLevel (policy : CsPolicy) : Bit :=
  match policy with
  | .activeLow => .one
  | .activeHigh => .zero
  | .defaultLow => .zero
  | .defaultHigh => .one

/-- The state with the configuration that SPI.Init binds (R238). -/
def spiConfigured (s : State) (mode : Mode) (order : Order) (csPin : Byte) (policy : CsPolicy) (lowVal lowDir : Byte) :
    State :=
  { s with
    spi.mode := mode
    spi.order := order
    spi.csPin := csPin
    spi.policy := policy
    spi.lowVal := lowVal
    spi.lowDir := lowDir
    spi.csLevel := initLevel policy }

/-- The state with the configuration that DC.Init binds besides (R262). -/
def dcConfigured (s : State) (dcPin rstPin highVal highDir : Byte) : State :=
  { s with
    dc.dcPin := dcPin
    dc.rstPin := rstPin
    dc.highVal := highVal
    dc.highDir := highDir
    dc.dcLevel := .one }

/-- The bracket of DC.Write and DC.Transfer with the transfer command `c` (R267, R268, R277). -/
def dcTransferBytes (s : State) (c : Cmd) (payload : Bytes) (isCommand : Bool) : Bytes :=
  openBytes s ++ dcCmd s (if isCommand then .zero else .one) .inactive ++
    ((dcChunks payload.length).flatMap fun k => transferBytes s.params c ((payload.drop k.1).take k.2)) ++ closeBytes s

/-- The bracket of DC.CommandStream (R272, R277). -/
def streamBytes (s : State) (buf : Bytes) : Bytes :=
  match parseStream buf with
  | .error _ => []
  | .ok entries => openBytes s ++ entries.flatMap (entryBytes s buf) ++ closeBytes s

/-- The six toggles of DC.ResetDance (R274). -/
def danceBytes (s : State) : Bytes :=
  let l := s.dc.dcLevel
  let n := if l = .one then Bit.zero else Bit.one
  dcCmd s n .inactive ++ dcCmd s l .inactive ++ dcCmd s n .inactive ++ dcCmd s l .inactive ++ dcCmd s n .inactive ++
    dcCmd s l .active

/-- The transaction of I2C.Write as far as its response says it went: after a ProtocolNack(k), byte-outs 0 to `k`
(R200, R201). -/
def i2cWriteBytes (s : State) (bs : Bytes) (r : Response) : Bytes :=
  match r with
  | .error (.protocolNack k) => i2cStartSeq s ++ sentBytes s.params (bs.take (k + 1)) ++ i2cStopSeq s
  | _ => i2cStartSeq s ++ sentBytes s.params bs ++ i2cStopSeq s

/-- The transaction of I2C.Read as far as its response says it went (R200, R202). -/
def i2cReadBytes (s : State) (a7 : Addr7) (reg : Byte) (n : Nat) (r : Response) : Bytes :=
  match r with
  | .error (.protocolNack k) => ((readHeader s a7 reg).take (k + 1)).flatten ++ i2cStopSeq s
  | _ => (readHeader s a7 reg).flatten ++ receivedBytes s.params n ++ i2cStopSeq s

/-- The bytes a request that ended with the response `r`, not InvalidArgument, has passed to `enqueue`, in order, from
its own rule: nothing for the function forms and for the XP requests but XP.Enqueue. -/
def enqueuedBy (i : Instr) (s : State) (r : Response) : Bytes :=
  let p := s.params
  match i with
  | .encSetClockDivisor div =>
    [p.opcOf .setClockDivisor, BitVec.ofNat 8 (div.toNat % 256), BitVec.ofNat 8 (div.toNat / 256)]
  | .encClkDiv5Disable => [p.opcOf .clkDiv5Disable]
  | .encClkDiv5Enable => [p.opcOf .clkDiv5Enable]
  | .encThreePhaseEnable => [p.opcOf .threePhaseEnable]
  | .encThreePhaseDisable => [p.opcOf .threePhaseDisable]
  | .encAdaptiveEnable => [p.opcOf .adaptiveEnable]
  | .encAdaptiveDisable => [p.opcOf .adaptiveDisable]
  | .encLoopbackConnect => [p.opcOf .loopbackConnect]
  | .encLoopbackDisconnect => [p.opcOf .loopbackDisconnect]
  | .encSendImmediate => [p.opcOf .sendImmediate]
  | .encWaitOnHigh => [p.opcOf .waitOnHigh]
  | .encWaitOnLow => [p.opcOf .waitOnLow]
  | .encSetDataBitsLow val dir => [p.opcOf .setDataBitsLow, val, dir]
  | .encSetDataBitsHigh val dir => [p.opcOf .setDataBitsHigh, val, dir]
  | .encReadDataBitsLow => [p.opcOf .readDataBitsLow]
  | .encReadDataBitsHigh => [p.opcOf .readDataBitsHigh]
  | .encBytesOutPlusMsb payload off len => payloadCommand p .bytesOutPlusMsb payload off len
  | .encBytesOutMinusMsb payload off len => payloadCommand p .bytesOutMinusMsb payload off len
  | .encBytesOutPlusLsb payload off len => payloadCommand p .bytesOutPlusLsb payload off len
  | .encBytesOutMinusLsb payload off len => payloadCommand p .bytesOutMinusLsb payload off len
  | .encBytesInPlusMsb n => byteInCommand p .bytesInPlusMsb n
  | .encBytesInMinusMsb n => byteInCommand p .bytesInMinusMsb n
  | .encBytesInPlusLsb n => byteInCommand p .bytesInPlusLsb n
  | .encBytesInMinusLsb n => byteInCommand p .bytesInMinusLsb n
  | .encBytesInPlusOutMinusMsb payload off len => payloadCommand p .bytesInPlusOutMinusMsb payload off len
  | .encBytesInMinusOutPlusMsb payload off len => payloadCommand p .bytesInMinusOutPlusMsb payload off len
  | .encBytesInPlusOutMinusLsb payload off len => payloadCommand p .bytesInPlusOutMinusLsb payload off len
  | .encBytesInMinusOutPlusLsb payload off len => payloadCommand p .bytesInMinusOutPlusLsb payload off len
  | .encBitsOutPlusMsb data k => bitOutCommand p .bitsOutPlusMsb data k
  | .encBitsOutMinusMsb data k => bitOutCommand p .bitsOutMinusMsb data k
  | .encBitsOutPlusLsb data k => bitOutCommand p .bitsOutPlusLsb data k
  | .encBitsOutMinusLsb data k => bitOutCommand p .bitsOutMinusLsb data k
  | .encBitsInPlusMsb k => bitInCommand p .bitsInPlusMsb k
  | .encBitsInMinusMsb k => bitInCommand p .bitsInMinusMsb k
  | .encBitsInPlusLsb k => bitInCommand p .bitsInPlusLsb k
  | .encBitsInMinusLsb k => bitInCommand p .bitsInMinusLsb k
  | .encBitsInPlusOutMinusMsb data k => bitOutCommand p .bitsInPlusOutMinusMsb data k
  | .encBitsInMinusOutPlusMsb data k => bitOutCommand p .bitsInMinusOutPlusMsb data k
  | .encBitsInPlusOutMinusLsb data k => bitOutCommand p .bitsInPlusOutMinusLsb data k
  | .encBitsInMinusOutPlusLsb data k => bitOutCommand p .bitsInMinusOutPlusLsb data k
  | .i2cInit div _ _ _ _ _ => i2cInitSeq p div
  | .i2cStart => i2cStartSeq s
  | .i2cStop => i2cStopSeq s
  | .i2cSendByte b => sentBytes p [b]
  | .i2cSendAddress a7 rw => sentBytes p [frame a7 rw]
  | .i2cReceiveByte a => i2cInSeq p a ++ immediateBytes p
  | .i2cScan => scanBytes s
  | .i2cWrite a7 reg data => i2cWriteBytes s (frame a7 .zero :: reg :: data) r
  | .i2cRead a7 reg n => i2cReadBytes s a7 reg n r
  | .i2cFastWrite a7 reg data => fastWriteBytes s a7 reg data
  | .i2cFastRead a7 reg n => fastReadBytes s a7 reg n
  | .spiInit mode order csPin policy lowVal lowDir =>
    csCmd (spiConfigured s mode order csPin policy lowVal lowDir) (initLevel policy)
  | .spiSetCsLevel level => csCmd s level
  | .spiEnable => openBytes s
  | .spiDisable => closeBytes s
  | .spiWrite payload => openBytes s ++ transferBytes p (writeCmd s) payload ++ closeBytes s
  | .spiTransfer payload => openBytes s ++ transferBytes p (duplexCmd s) payload ++ closeBytes s
  | .dcInit mode order csPin policy lowVal lowDir dcPin rstPin highVal highDir =>
    csCmd (spiConfigured s mode order csPin policy lowVal lowDir) (initLevel policy) ++
      dcCmd (dcConfigured s dcPin rstPin highVal highDir) .one .inactive
  | .dcSetDcLevel isCommand => dcCmd s (if isCommand then .zero else .one) .inactive
  | .dcWrite payload isCommand => dcTransferBytes s (writeCmd s) payload isCommand
  | .dcTransfer payload isCommand => dcTransferBytes s (duplexCmd s) payload isCommand
  | .dcCommandStream buf => streamBytes s buf
  | .dcResetDance => danceBytes s
  | .dcResetTimed _ _ => dcCmd s s.dc.dcLevel .active ++ dcCmd s s.dc.dcLevel .inactive
  | .xpEnqueue bytes => bytes
  | _ => []

end Sys2Proof.Machine
end

