-- ==== Sys2Proof/Certificates/Slice0/Obligations.lean ====
section
/-! DEFINITION. The statements for the provers. Each speaks of every state, so of every parameter setting and every
answer of the environment, unless it says otherwise.

Whether a transport call succeeds, and which bytes it leaves, is the environment's choice (R66); that the model draws it
from `script` and then from free values, what it lets a failed call leave, and how many bytes a flush brings, is the
model's choice (log 8, 9, 10, 11). So are the response port `resp` (log 12) and the two ports of log 2 and log 3. Every statement about a request that flushes
or reads rests on the former and is listed as derived; those listed as stated touch no transport answer. -/

open Sys2Proof Sys2Proof.Machine

/-! ## Decoding, encoding, stepping -/

/-- Every well-formed instruction is read back from its bytes, whatever follows them: an engine command by the decoder of
the function interface, a request by that of the request port, and neither by the other's. The operand layout of
requests is the model's own (log 1); that of engine commands is R91 to R95. -/
def Obligations.DecodeReadsBackEveryEncoding : Prop :=
  ∀ (i : Instr) (rest : Bytes), i.wellFormed = true →
    (familyOf i.op = .function →
      decodeCommand (encode i ++ rest) = .ok (i, rest) ∧
      ∃ b : Byte, decodeRequest (encode i ++ rest) = .error (.reservedCode b)) ∧
    (familyOf i.op ≠ .function →
      decodeRequest (encode i ++ rest) = .ok (i, rest) ∧
      ∃ b : Byte, decodeCommand (encode i ++ rest) = .error (.unknownOpcode b))

/-- A few words written out from R91 to R95, R97 and R104 are read as the instructions they stand for, at least one of
each of the nine formats and of each unit's requests; the operand bytes of the requests are the model's layout (log 1). -/
def Obligations.WrittenOutWordsDecode : Prop :=
  decodeCommand [0x87] = .ok (.sendImmediate, []) ∧
  decodeCommand [0x86, 0x2B, 0x01] = .ok (.setClockDivisor 0x012B, []) ∧
  decodeCommand [0x80, 0x08, 0x0B] = .ok (.setDataBitsLow 0x08 0x0B, []) ∧
  decodeCommand [0x11, 0x03, 0x00, 0xDE, 0xAD, 0xBE, 0xEF] =
    .ok (.bytesOutMinusMsb [0xDE, 0xAD, 0xBE, 0xEF] none none, []) ∧
  decodeCommand [0x2C, 0x33, 0x12] = .ok (.bytesInMinusLsb 4660, []) ∧
  decodeCommand [0x31, 0x01, 0x00, 0x9F, 0x00] = .ok (.bytesInPlusOutMinusMsb [0x9F, 0x00] none none, []) ∧
  decodeCommand [0x1A, 0x07, 0xA5] = .ok (.bitsOutPlusLsb 0xA5 8, []) ∧
  decodeCommand [0x2E, 0x04] = .ok (.bitsInMinusLsb 5, []) ∧
  decodeCommand [0x33, 0x02, 0x80] = .ok (.bitsInPlusOutMinusMsb 0x80 3, []) ∧
  decodeRequest [0xA0, 0xFF, 0xFF] = .ok (.encSetClockDivisor 0xFFFF, []) ∧
  decodeRequest [0xD5, 0x50, 0x01] = .ok (.i2cSendAddress 0x50 .one, []) ∧
  decodeRequest [0xE4, 0x02, 0xDE, 0xAD] = .ok (.spiWrite [0xDE, 0xAD], []) ∧
  decodeRequest [0xEA, 0x01, 0xAF, 0x01] = .ok (.dcWrite [0xAF] true, []) ∧
  decodeRequest [0xF2, 0x02] = .ok (.xpRead 2, [])

/-- A step accepts the request at the request port and is that request's meaning, on the state whose port holds what was
presented after it (log 2); a call at the function interface is answered before it, by the meaning of the engine command
it names (log 3). -/
def Obligations.StepRunsTheDecodedRequest : Prop :=
  ∀ (s : State) (i : Instr) (rest : Bytes),
    (s.encPort = [] → decodeRequest s.port = .ok (i, rest) → step s = exec i { s with port := rest }) ∧
    (decodeCommand s.encPort = .ok (i, rest) → step s = exec i { s with encPort := rest })

/-- With nothing presented the block waits (R330, log 2); a request whose code is none of the 72 of R104 is refused
(R104, U1), an engine opcode of R97 among them; so is a function call that names no engine command (log 3). -/
def Obligations.WaitsWhenIdleRefusesReservedCodes : Prop :=
  (∀ s : State, s.encPort = [] → s.port = [] → step s = .next s) ∧
  (∀ (s : State) (b : Byte) (bs : Bytes), s.encPort = [] → s.port = b :: bs →
    ¬ (0xA0 ≤ b.toNat ∧ b.toNat ≤ 0xC7 ∨ 0xD0 ≤ b.toNat ∧ b.toNat ≤ 0xDB ∨ 0xE0 ≤ b.toNat ∧ b.toNat ≤ 0xE5 ∨
      0xE8 ≤ b.toNat ∧ b.toNat ≤ 0xEE ∨ 0xF0 ≤ b.toNat ∧ b.toNat ≤ 0xF6) →
    step s = .refused (.reservedCode b)) ∧
  (∀ (s : State) (b : Byte) (bs : Bytes), s.encPort = b :: bs → (∀ c ∈ Cmd.all, c.defaultOpc ≠ b) →
    step s = .refused (.unknownOpcode b))

/-! ## Engine commands and ENC requests -/

/-- The length fields (R98, R165): for the twelve byte-transfer functions `lo + 256*hi + 1 = L`, for the twelve
bit-transfer functions `g + 1 = K`; lengths 0 and beyond the maximum are InvalidArgument. -/
def Obligations.LengthFieldsRoundTrip : Prop :=
  (∀ f ∈ [encBytesOutPlusMsb, encBytesOutMinusMsb, encBytesOutPlusLsb, encBytesOutMinusLsb, encBytesInPlusOutMinusMsb,
      encBytesInMinusOutPlusMsb, encBytesInPlusOutMinusLsb, encBytesInMinusOutPlusLsb],
    ∀ (p : Params) (payload : Bytes) (off len : Nat),
      (1 ≤ len → len ≤ 65536 → off + len ≤ payload.length →
        ∃ op lo hi : Byte, f p payload off len = .ok (op :: lo :: hi :: (payload.drop off).take len) ∧
          lo.toNat + 256 * hi.toNat + 1 = len) ∧
      (len = 0 ∨ len > 65536 → f p payload off len = .error .invalidArgument)) ∧
  (∀ f ∈ [encBytesInPlusMsb, encBytesInMinusMsb, encBytesInPlusLsb, encBytesInMinusLsb],
    ∀ (p : Params) (len : Nat),
      (1 ≤ len → len ≤ 65536 → ∃ op lo hi : Byte, f p len = .ok [op, lo, hi] ∧ lo.toNat + 256 * hi.toNat + 1 = len) ∧
      (len = 0 ∨ len > 65536 → f p len = .error .invalidArgument)) ∧
  (∀ f ∈ [encBitsOutPlusMsb, encBitsOutMinusMsb, encBitsOutPlusLsb, encBitsOutMinusLsb, encBitsInPlusOutMinusMsb,
      encBitsInMinusOutPlusMsb, encBitsInPlusOutMinusLsb, encBitsInMinusOutPlusLsb],
    ∀ (p : Params) (data : Byte) (count : Nat),
      (1 ≤ count → count ≤ 8 → ∃ op g : Byte, f p data count = .ok [op, g, data] ∧ g.toNat + 1 = count) ∧
      (count = 0 ∨ count > 8 → f p data count = .error .invalidArgument)) ∧
  (∀ f ∈ [encBitsInPlusMsb, encBitsInMinusMsb, encBitsInPlusLsb, encBitsInMinusLsb],
    ∀ (p : Params) (count : Nat),
      (1 ≤ count → count ≤ 8 → ∃ op g : Byte, f p count = .ok [op, g] ∧ g.toNat + 1 = count) ∧
      (count = 0 ∨ count > 8 → f p count = .error .invalidArgument))

/-- The engine splits every emitted command off the stream by its opcode and length field alone, and counts its response
bytes (R99, R123), when `OPC` is injective (R9). The counts of bit-in with more than one bit and of bit-duplex commands
are general knowledge (log 10). -/
def Obligations.EngineSplitsAndCountsEveryCommand : Prop :=
  ∀ p : Params, p.opc.toList.Nodup → ∀ rest : Bytes,
    (∀ c ∈ Cmd.all, c.format = .N →
      responseTotal p (p.opcOf c :: rest) =
        (responseTotal p rest).map ((if c = .readDataBitsLow ∨ c = .readDataBitsHigh then 1 else 0) + ·)) ∧
    (∀ c ∈ Cmd.all, c.format = .P ∨ c.format = .D → ∀ x y : Byte,
      responseTotal p (p.opcOf c :: x :: y :: rest) = responseTotal p rest) ∧
    (∀ c ∈ Cmd.all, c.format = .YO ∨ c.format = .YIO → ∀ bs : Bytes, 1 ≤ bs.length → bs.length ≤ 65536 →
      responseTotal p (transferBytes p c bs ++ rest) =
        (responseTotal p rest).map ((if c.format = .YIO then bs.length else 0) + ·)) ∧
    (∀ c ∈ Cmd.all, c.format = .YI → ∀ lo hi : Byte,
      responseTotal p (p.opcOf c :: lo :: hi :: rest) =
        (responseTotal p rest).map (lo.toNat + 256 * hi.toNat + 1 + ·)) ∧
    (∀ c ∈ Cmd.all, c.format = .BO ∨ c.format = .BIO → ∀ g data : Byte, g.toNat < 8 →
      responseTotal p (p.opcOf c :: g :: data :: rest) =
        (responseTotal p rest).map ((if c.format = .BIO then 1 else 0) + ·)) ∧
    (∀ c ∈ Cmd.all, c.format = .BI → ∀ g : Byte, g.toNat < 8 →
      responseTotal p (p.opcOf c :: g :: rest) = (responseTotal p rest).map (1 + ·))

/-- The function forms of the no-operand, divisor and pin commands answer their bytes (R91 to R93, R125 to R140) and
change nothing else. -/
def Obligations.PlainCommandFunctionsAnswerTheirBytes : Prop :=
  (∀ x ∈
    [(Instr.clkDiv5Disable, Cmd.clkDiv5Disable), (Instr.clkDiv5Enable, Cmd.clkDiv5Enable),
     (Instr.threePhaseEnable, Cmd.threePhaseEnable), (Instr.threePhaseDisable, Cmd.threePhaseDisable),
     (Instr.adaptiveEnable, Cmd.adaptiveEnable), (Instr.adaptiveDisable, Cmd.adaptiveDisable),
     (Instr.loopbackConnect, Cmd.loopbackConnect), (Instr.loopbackDisconnect, Cmd.loopbackDisconnect),
     (Instr.sendImmediate, Cmd.sendImmediate), (Instr.waitOnHigh, Cmd.waitOnHigh),
     (Instr.waitOnLow, Cmd.waitOnLow), (Instr.readDataBitsLow, Cmd.readDataBitsLow),
     (Instr.readDataBitsHigh, Cmd.readDataBitsHigh)],
    ∀ s : State, exec x.1 s = .next { s with resp := .ok (.bytes [s.params.opcOf x.2]) }) ∧
  (∀ (div : Half) (s : State), exec (.setClockDivisor div) s = .next { s with
    resp := .ok (.bytes [s.params.opcOf .setClockDivisor, BitVec.ofNat 8 (div.toNat % 256),
      BitVec.ofNat 8 (div.toNat / 256)]) }) ∧
  (∀ (val dir : Byte) (s : State),
    exec (.setDataBitsLow val dir) s = .next { s with
      resp := .ok (.bytes [s.params.opcOf .setDataBitsLow, val, dir]) } ∧
    exec (.setDataBitsHigh val dir) s = .next { s with
      resp := .ok (.bytes [s.params.opcOf .setDataBitsHigh, val, dir]) })

/-- The function forms of the eight payload commands (R94, R141 to R144, R149 to R152, R167): with `off` default 0 and
`L` default `len(payload) - off`, the bytes of the sub-range, or InvalidArgument; nothing else changes. -/
def Obligations.PayloadCommandFunctionsAnswerTheirBytes : Prop :=
  ∀ x ∈
    [(Instr.bytesOutPlusMsb, Cmd.bytesOutPlusMsb), (Instr.bytesOutMinusMsb, Cmd.bytesOutMinusMsb),
     (Instr.bytesOutPlusLsb, Cmd.bytesOutPlusLsb), (Instr.bytesOutMinusLsb, Cmd.bytesOutMinusLsb),
     (Instr.bytesInPlusOutMinusMsb, Cmd.bytesInPlusOutMinusMsb),
     (Instr.bytesInMinusOutPlusMsb, Cmd.bytesInMinusOutPlusMsb),
     (Instr.bytesInPlusOutMinusLsb, Cmd.bytesInPlusOutMinusLsb),
     (Instr.bytesInMinusOutPlusLsb, Cmd.bytesInMinusOutPlusLsb)],
  ∀ (payload : Bytes) (off len : Option Nat) (s : State),
    let o := off.getD 0
    let n := len.getD (payload.length - o)
    (1 ≤ n ∧ n ≤ 65536 ∧ o + n ≤ payload.length → exec (x.1 payload off len) s = .next { s with
      resp := .ok (.bytes (transferBytes s.params x.2 ((payload.drop o).take n))) }) ∧
    (¬ (1 ≤ n ∧ n ≤ 65536 ∧ o + n ≤ payload.length) →
      exec (x.1 payload off len) s = .next { s with resp := .error .invalidArgument })

/-- The function forms of the four byte-in commands (R94, R145 to R148). -/
def Obligations.ByteInCommandFunctionsAnswerTheirBytes : Prop :=
  ∀ x ∈
    [(Instr.bytesInPlusMsb, Cmd.bytesInPlusMsb), (Instr.bytesInMinusMsb, Cmd.bytesInMinusMsb),
     (Instr.bytesInPlusLsb, Cmd.bytesInPlusLsb), (Instr.bytesInMinusLsb, Cmd.bytesInMinusLsb)],
  ∀ (n : Nat) (s : State),
    (1 ≤ n ∧ n ≤ 65536 → exec (x.1 n) s = .next { s with
      resp := .ok (.bytes [s.params.opcOf x.2, BitVec.ofNat 8 ((n - 1) % 256), BitVec.ofNat 8 ((n - 1) / 256)]) }) ∧
    (¬ (1 ≤ n ∧ n ≤ 65536) → exec (x.1 n) s = .next { s with resp := .error .invalidArgument })

/-- The function forms of the twelve bit-transfer commands (R95, R153 to R164). -/
def Obligations.BitCommandFunctionsAnswerTheirBytes : Prop :=
  (∀ x ∈
    [(Instr.bitsOutPlusMsb, Cmd.bitsOutPlusMsb), (Instr.bitsOutMinusMsb, Cmd.bitsOutMinusMsb),
     (Instr.bitsOutPlusLsb, Cmd.bitsOutPlusLsb), (Instr.bitsOutMinusLsb, Cmd.bitsOutMinusLsb),
     (Instr.bitsInPlusOutMinusMsb, Cmd.bitsInPlusOutMinusMsb),
     (Instr.bitsInMinusOutPlusMsb, Cmd.bitsInMinusOutPlusMsb),
     (Instr.bitsInPlusOutMinusLsb, Cmd.bitsInPlusOutMinusLsb),
     (Instr.bitsInMinusOutPlusLsb, Cmd.bitsInMinusOutPlusLsb)],
  ∀ (data : Byte) (k : Nat) (s : State),
    (1 ≤ k ∧ k ≤ 8 → exec (x.1 data k) s = .next { s with
      resp := .ok (.bytes [s.params.opcOf x.2, BitVec.ofNat 8 (k - 1), data]) }) ∧
    (¬ (1 ≤ k ∧ k ≤ 8) → exec (x.1 data k) s = .next { s with resp := .error .invalidArgument })) ∧
  (∀ x ∈
    [(Instr.bitsInPlusMsb, Cmd.bitsInPlusMsb), (Instr.bitsInMinusMsb, Cmd.bitsInMinusMsb),
     (Instr.bitsInPlusLsb, Cmd.bitsInPlusLsb), (Instr.bitsInMinusLsb, Cmd.bitsInMinusLsb)],
  ∀ (k : Nat) (s : State),
    (1 ≤ k ∧ k ≤ 8 → exec (x.1 k) s = .next { s with
      resp := .ok (.bytes [s.params.opcOf x.2, BitVec.ofNat 8 (k - 1)]) }) ∧
    (¬ (1 ≤ k ∧ k ≤ 8) → exec (x.1 k) s = .next { s with resp := .error .invalidArgument }))

/-- The ENC requests of the no-operand, divisor and pin commands append their command to `CB`, with status OK, and
change nothing else (R124, R125 to R140). -/
def Obligations.PlainEncRequestsAppendTheirBytes : Prop :=
  (∀ x ∈
    [(Instr.encClkDiv5Disable, Cmd.clkDiv5Disable), (Instr.encClkDiv5Enable, Cmd.clkDiv5Enable),
     (Instr.encThreePhaseEnable, Cmd.threePhaseEnable), (Instr.encThreePhaseDisable, Cmd.threePhaseDisable),
     (Instr.encAdaptiveEnable, Cmd.adaptiveEnable), (Instr.encAdaptiveDisable, Cmd.adaptiveDisable),
     (Instr.encLoopbackConnect, Cmd.loopbackConnect), (Instr.encLoopbackDisconnect, Cmd.loopbackDisconnect),
     (Instr.encSendImmediate, Cmd.sendImmediate), (Instr.encWaitOnHigh, Cmd.waitOnHigh),
     (Instr.encWaitOnLow, Cmd.waitOnLow), (Instr.encReadDataBitsLow, Cmd.readDataBitsLow),
     (Instr.encReadDataBitsHigh, Cmd.readDataBitsHigh)],
    ∀ s : State, exec x.1 s = .next { s with resp := .ok .unit, xp.cb := s.xp.cb ++ [s.params.opcOf x.2] }) ∧
  (∀ (div : Half) (s : State), exec (.encSetClockDivisor div) s = .next { s with
    resp := .ok .unit
    xp.cb := s.xp.cb ++ [s.params.opcOf .setClockDivisor, BitVec.ofNat 8 (div.toNat % 256),
      BitVec.ofNat 8 (div.toNat / 256)] }) ∧
  (∀ (val dir : Byte) (s : State),
    exec (.encSetDataBitsLow val dir) s = .next { s with
      resp := .ok .unit
      xp.cb := s.xp.cb ++ [s.params.opcOf .setDataBitsLow, val, dir] } ∧
    exec (.encSetDataBitsHigh val dir) s = .next { s with
      resp := .ok .unit
      xp.cb := s.xp.cb ++ [s.params.opcOf .setDataBitsHigh, val, dir] })

/-- The ENC requests of the eight payload commands append the command of the sub-range, or end with InvalidArgument and
leave `CB` as it was (R124, R121, R167). -/
def Obligations.PayloadEncRequestsAppendTheirBytes : Prop :=
  ∀ x ∈
    [(Instr.encBytesOutPlusMsb, Cmd.bytesOutPlusMsb), (Instr.encBytesOutMinusMsb, Cmd.bytesOutMinusMsb),
     (Instr.encBytesOutPlusLsb, Cmd.bytesOutPlusLsb), (Instr.encBytesOutMinusLsb, Cmd.bytesOutMinusLsb),
     (Instr.encBytesInPlusOutMinusMsb, Cmd.bytesInPlusOutMinusMsb),
     (Instr.encBytesInMinusOutPlusMsb, Cmd.bytesInMinusOutPlusMsb),
     (Instr.encBytesInPlusOutMinusLsb, Cmd.bytesInPlusOutMinusLsb),
     (Instr.encBytesInMinusOutPlusLsb, Cmd.bytesInMinusOutPlusLsb)],
  ∀ (payload : Bytes) (off len : Option Nat) (s : State),
    let o := off.getD 0
    let n := len.getD (payload.length - o)
    (1 ≤ n ∧ n ≤ 65536 ∧ o + n ≤ payload.length → exec (x.1 payload off len) s = .next { s with
      resp := .ok .unit
      xp.cb := s.xp.cb ++ transferBytes s.params x.2 ((payload.drop o).take n) }) ∧
    (¬ (1 ≤ n ∧ n ≤ 65536 ∧ o + n ≤ payload.length) →
      exec (x.1 payload off len) s = .next { s with resp := .error .invalidArgument })

/-- The ENC requests of the four byte-in commands (R124, R145 to R148). -/
def Obligations.ByteInEncRequestsAppendTheirBytes : Prop :=
  ∀ x ∈
    [(Instr.encBytesInPlusMsb, Cmd.bytesInPlusMsb), (Instr.encBytesInMinusMsb, Cmd.bytesInMinusMsb),
     (Instr.encBytesInPlusLsb, Cmd.bytesInPlusLsb), (Instr.encBytesInMinusLsb, Cmd.bytesInMinusLsb)],
  ∀ (n : Nat) (s : State),
    (1 ≤ n ∧ n ≤ 65536 → exec (x.1 n) s = .next { s with
      resp := .ok .unit
      xp.cb := s.xp.cb ++
        [s.params.opcOf x.2, BitVec.ofNat 8 ((n - 1) % 256), BitVec.ofNat 8 ((n - 1) / 256)] }) ∧
    (¬ (1 ≤ n ∧ n ≤ 65536) → exec (x.1 n) s = .next { s with resp := .error .invalidArgument })

/-- The ENC requests of the twelve bit-transfer commands (R124, R153 to R164). -/
def Obligations.BitEncRequestsAppendTheirBytes : Prop :=
  (∀ x ∈
    [(Instr.encBitsOutPlusMsb, Cmd.bitsOutPlusMsb), (Instr.encBitsOutMinusMsb, Cmd.bitsOutMinusMsb),
     (Instr.encBitsOutPlusLsb, Cmd.bitsOutPlusLsb), (Instr.encBitsOutMinusLsb, Cmd.bitsOutMinusLsb),
     (Instr.encBitsInPlusOutMinusMsb, Cmd.bitsInPlusOutMinusMsb),
     (Instr.encBitsInMinusOutPlusMsb, Cmd.bitsInMinusOutPlusMsb),
     (Instr.encBitsInPlusOutMinusLsb, Cmd.bitsInPlusOutMinusLsb),
     (Instr.encBitsInMinusOutPlusLsb, Cmd.bitsInMinusOutPlusLsb)],
  ∀ (data : Byte) (k : Nat) (s : State),
    (1 ≤ k ∧ k ≤ 8 → exec (x.1 data k) s = .next { s with
      resp := .ok .unit
      xp.cb := s.xp.cb ++ [s.params.opcOf x.2, BitVec.ofNat 8 (k - 1), data] }) ∧
    (¬ (1 ≤ k ∧ k ≤ 8) → exec (x.1 data k) s = .next { s with resp := .error .invalidArgument })) ∧
  (∀ x ∈
    [(Instr.encBitsInPlusMsb, Cmd.bitsInPlusMsb), (Instr.encBitsInMinusMsb, Cmd.bitsInMinusMsb),
     (Instr.encBitsInPlusLsb, Cmd.bitsInPlusLsb), (Instr.encBitsInMinusLsb, Cmd.bitsInMinusLsb)],
  ∀ (k : Nat) (s : State),
    (1 ≤ k ∧ k ≤ 8 → exec (x.1 k) s = .next { s with
      resp := .ok .unit
      xp.cb := s.xp.cb ++ [s.params.opcOf x.2, BitVec.ofNat 8 (k - 1)] }) ∧
    (¬ (1 ≤ k ∧ k ≤ 8) → exec (x.1 k) s = .next { s with resp := .error .invalidArgument }))

/-! ## The transport port -/

/-- XP.Enqueue, XP.ClearInput, XP.ClearOutput, XP.SetClockDivisor and XP.SetLoopback (R290, R293 to R296): one write
each, no transport call answered, nothing else changed. -/
def Obligations.XpWritesAndDiscards : Prop :=
  ∀ s : State,
    (∀ bytes : Bytes, exec (.xpEnqueue bytes) s = .next { s with resp := .ok .unit, xp.cb := s.xp.cb ++ bytes }) ∧
    exec .xpClearInput s = .next { s with resp := .ok .unit, xp.rxq := [] } ∧
    exec .xpClearOutput s = .next { s with resp := .ok .unit, xp.cb := [] } ∧
    (∀ d : Half, exec (.xpSetClockDivisor d) s = .next { s with resp := .ok .unit, xp.clkdiv := d }) ∧
    (∀ b : Bool, exec (.xpSetLoopback b) s = .next { s with resp := .ok .unit, xp.loopback := b })

/-- XP.Execute (R63, R291): where the environment lets it, `WIRE <- WIRE ++ CB; CB <- []` and the responses become
available; else TransportFailure, `WIRE` unchanged and `CB` whatever the environment leaves. -/
def Obligations.XpExecuteDeliversOrFails : Prop :=
  ∀ s : State,
    (s.answer.ok = true → exec .xpExecute s = .next { s with
      resp := .ok .unit
      script := s.script.tail
      calls := s.calls + 1
      xp.wire := s.xp.wire ++ s.xp.cb
      xp.cb := []
      xp.rxq := s.xp.rxq ++ s.arrivals }) ∧
    (s.answer.ok = false → exec .xpExecute s = .next { s with
      resp := .error .transportFailure
      script := s.script.tail
      calls := s.calls + 1
      xp.cb := s.answer.bytes })

/-- XP.Read (R64, R292): `read(0)` is `[]` without a transport call; else the first `n` bytes leave `RXQ`, or
TransportFailure and `RXQ` whatever the environment leaves. That a read fails when fewer than `n` bytes wait is the
model's reading of R64 (log 11). -/
def Obligations.XpReadTakesTheFrontOrFails : Prop :=
  ∀ s : State,
    exec (.xpRead 0) s = .next { s with resp := .ok (.bytes []) } ∧
    (∀ n : Nat, 1 ≤ n → s.answer.ok = true → n ≤ s.xp.rxq.length → exec (.xpRead n) s = .next { s with
      resp := .ok (.bytes (s.xp.rxq.take n))
      script := s.script.tail
      calls := s.calls + 1
      xp.rxq := s.xp.rxq.drop n }) ∧
    (∀ n : Nat, 1 ≤ n → s.answer.ok = false ∨ s.xp.rxq.length < n → exec (.xpRead n) s = .next { s with
      resp := .error .transportFailure
      script := s.script.tail
      calls := s.calls + 1
      xp.rxq := s.answer.bytes })

/-- Where `WIRE` and `CB` are whole commands, exactly the response bytes of `CB`'s commands arrive with the flush (R66,
R123), with the values the environment gave where it gave them (log 10). -/
def Obligations.FlushBringsExactlyTheOwedBytes : Prop :=
  ∀ (s : State) (m n : Nat), responseTotal s.params s.xp.wire = some m → responseTotal s.params s.xp.cb = some n →
    s.arrivals.length = n ∧ (n ≤ s.answer.bytes.length → s.arrivals = s.answer.bytes.take n)

/-! ## I2C -/

/-- The named byte sequences of the I2C unit (R182, R186, R188 to R190, R192). -/
def Obligations.I2cSequencesAreTheRules : Prop :=
  ∀ (s : State) (b : Byte) (div : Half),
    let p := s.params
    let held := fun ls : LineState => [p.opcOf .setDataBitsLow, (p.line.pins ls).val, (p.line.pins ls).dir]
    i2cInitSeq p div = [p.opcOf .clkDiv5Disable, p.opcOf .adaptiveDisable, p.opcOf .threePhaseEnable,
      p.opcOf .setClockDivisor, BitVec.ofNat 8 (div.toNat % 256), BitVec.ofNat 8 (div.toNat / 256),
      p.opcOf .loopbackDisconnect] ++ held .idle ∧
    i2cStartSeq s = (List.replicate s.i2c.tStart1.toNat (held .hh)).flatten ++
      (List.replicate s.i2c.tStart2.toNat (held .chDl)).flatten ++ held .ll ∧
    i2cStopSeq s = (List.replicate s.i2c.tStop1.toNat (held .ll)).flatten ++
      (List.replicate s.i2c.tStop2.toNat (held .chDl)).flatten ++
      (List.replicate s.i2c.tStop3.toNat (held .idle)).flatten ∧
    i2cOutSeq p b = held .ll ++ [p.opcOf .bytesOutMinusMsb, 0, 0, b] ++ held .clDr ++ [p.opcOf .bitsInPlusMsb, 0] ∧
    i2cInSeq p true = held .clDr ++ [p.opcOf .bytesInPlusMsb, 0, 0] ++ held .ll ++
      [p.opcOf .bitsOutMinusMsb, 0, 0x00] ∧
    i2cInSeq p false = held .clDr ++ [p.opcOf .bytesInPlusMsb, 0, 0] ++ held .ll ++
      [p.opcOf .bitsOutMinusMsb, 0, 0xFF]

/-- Address framing (R191): `frame(a7, rw) = 2·a7 + rw`, no bit lost. -/
def Obligations.AddressFraming : Prop :=
  ∀ a7 : Addr7, (frame a7 .zero).toNat = 2 * a7.toNat ∧ (frame a7 .one).toNat = 2 * a7.toNat + 1

/-- The ACK test (R206): acknowledged exactly when the response byte is even. -/
def Obligations.AckTestIsBitZero : Prop :=
  ∀ r : Byte, (r.toNat % 2 = 0 → acked r = true) ∧ (r.toNat % 2 = 1 → acked r = false)

/-- I2C.Init (R186): in any state, the registers, the ten bytes, one flush; ready exactly when the flush succeeds; a
count outside 1..255 changes nothing. I2C.SetTiming (R187): the five counts only. -/
def Obligations.I2cInitAndSetTiming : Prop :=
  ∀ (s : State) (div : Half) (t1 t2 t3 t4 t5 : Nat),
    let legal := ∀ t ∈ [t1, t2, t3, t4, t5], 1 ≤ t ∧ t ≤ 255
    let s1 := { s with
      i2c.clkdiv := div
      i2c.tStart1 := BitVec.ofNat 8 t1
      i2c.tStart2 := BitVec.ofNat 8 t2
      i2c.tStop1 := BitVec.ofNat 8 t3
      i2c.tStop2 := BitVec.ofNat 8 t4
      i2c.tStop3 := BitVec.ofNat 8 t5
      i2c.fsm := .idle
      xp.cb := s.xp.cb ++ i2cInitSeq s.params div }
    (legal → s1.answer.ok = true →
      exec (.i2cInit div t1 t2 t3 t4 t5) s = .next { s1.flushed with i2c.ready := true, resp := .ok .unit }) ∧
    (legal → s1.answer.ok = false →
      exec (.i2cInit div t1 t2 t3 t4 t5) s =
        .next { s1.flushLost with i2c.ready := false, resp := .error .transportFailure }) ∧
    (¬ legal → exec (.i2cInit div t1 t2 t3 t4 t5) s = .next { s with resp := .error .invalidArgument }) ∧
    (s.i2c.ready = true → legal → exec (.i2cSetTiming t1 t2 t3 t4 t5) s = .next { s with
      resp := .ok .unit
      i2c.tStart1 := BitVec.ofNat 8 t1
      i2c.tStart2 := BitVec.ofNat 8 t2
      i2c.tStop1 := BitVec.ofNat 8 t3
      i2c.tStop2 := BitVec.ofNat 8 t4
      i2c.tStop3 := BitVec.ofNat 8 t5 }) ∧
    (s.i2c.ready = true → ¬ legal →
      exec (.i2cSetTiming t1 t2 t3 t4 t5) s = .next { s with resp := .error .invalidArgument })

/-- I2C.Start (R194): appends `I2C_START_SEQ`, goes to Started, flushes nothing. -/
def Obligations.I2cStartAppends : Prop :=
  ∀ s : State, s.i2c.ready = true → s.i2c.fsm ≠ .stopped →
    exec .i2cStart s = .next { s with resp := .ok .unit, i2c.fsm := .started, xp.cb := s.xp.cb ++ i2cStartSeq s }

/-- I2C.Stop (R195): appends `I2C_STOP_SEQ`, flushes, is Idle afterwards, whether the flush succeeds or fails. -/
def Obligations.I2cStopFlushes : Prop :=
  ∀ s : State, s.i2c.ready = true → s.i2c.fsm = .started ∨ s.i2c.fsm = .byteOut ∨ s.i2c.fsm = .byteIn →
    let s1 := { s with i2c.fsm := .stopped, xp.cb := s.xp.cb ++ i2cStopSeq s }
    exec .i2cStop s = .next (idle (flushThen s1 fun t => { t with resp := .ok .unit }))

/-- I2C.SendByte (R196) and I2C.SendAddress (R197): append `I2C_OUT_SEQ` and SendImmediate where the parameter says so,
flush, read one byte, answer whether its bit 0 is 0, in ByteOut; on a failure Idle and TransportFailure (R205). -/
def Obligations.I2cSendsOneByte : Prop :=
  ∀ (s : State) (b : Byte) (a7 : Addr7) (rw : Bit), s.i2c.ready = true →
    let sent := fun x : Byte => { s with
      i2c.fsm := .byteOut
      xp.cb := s.xp.cb ++ i2cOutSeq s.params x ++ immediateBytes s.params }
    let after := fun t : State =>
      if t.answer.ok = true then
        if t.flushed.answer.ok = true ∧ 1 ≤ t.flushed.xp.rxq.length then
          { t.flushed.taken 1 with resp := .ok (.bool (isAck (t.flushed.xp.rxq.headD 0))) }
        else idle { t.flushed.readLost with resp := .error .transportFailure }
      else idle { t.flushLost with resp := .error .transportFailure }
    (s.i2c.fsm = .started ∨ s.i2c.fsm = .byteOut ∨ s.i2c.fsm = .byteIn →
      exec (.i2cSendByte b) s = .next (after (sent b))) ∧
    (s.i2c.fsm = .started → exec (.i2cSendAddress a7 rw) s = .next (after (sent (frame a7 rw))))

/-- I2C.ReceiveByte (R198): append `I2C_IN_SEQ`, flush, read one byte and answer it, in ByteIn; on a failure Idle and
TransportFailure (R205). -/
def Obligations.I2cReceivesOneByte : Prop :=
  ∀ (s : State) (a : Bool), s.i2c.ready = true →
    s.i2c.fsm = .started ∨ s.i2c.fsm = .byteOut ∨ s.i2c.fsm = .byteIn →
    let t : State := { s with
      i2c.fsm := .byteIn
      xp.cb := s.xp.cb ++ i2cInSeq s.params a ++ immediateBytes s.params }
    exec (.i2cReceiveByte a) s = .next (
      if t.answer.ok = true then
        if t.flushed.answer.ok = true ∧ 1 ≤ t.flushed.xp.rxq.length then
          { t.flushed.taken 1 with resp := .ok (.byte (t.flushed.xp.rxq.headD 0)) }
        else idle { t.flushed.readLost with resp := .error .transportFailure }
      else idle { t.flushLost with resp := .error .transportFailure })

/-- I2C.Scan (R199): 126 probes in ascending order, and the result is exactly the addresses whose response byte has bit
0 clear; every response byte is read, and the unit is Idle. -/
def Obligations.I2cScanReportsTheAcknowledging : Prop :=
  ∀ (s : State) (acks : Bytes) (rest : List Answer),
    s.params.opc.toList.Nodup → s.accounted → s.i2c.ready = true → s.i2c.fsm = .idle → acks.length = 126 →
    s.script = (acks.flatMap fun r => byteAnswers r ++ [plainAnswer]) ++ rest →
    exec .i2cScan s = .next { s with
      resp := .ok (.addresses (((List.range 126).filter fun k => isAck (acks.getD k 0)).map fun k =>
        BitVec.ofNat 7 (k + 1)))
      script := rest
      calls := s.calls + 378
      xp.wire := s.xp.wire ++ s.xp.cb ++ scanBytes s
      xp.cb := []
      xp.rxq := [] }

/-- Whatever the environment answers, a scan ends Idle, with TransportFailure or with a list of addresses of 1..126
only, in strictly ascending order (R199). -/
def Obligations.I2cScanListIsAscendingAndInRange : Prop :=
  ∀ s : State, s.i2c.ready = true → s.i2c.fsm = .idle →
    ∃ t : State, exec .i2cScan s = .next t ∧ t.i2c.fsm = .idle ∧
      (t.resp = .error .transportFailure ∨
       ∃ found : List Addr7, t.resp = .ok (.addresses found) ∧ (∀ a ∈ found, 1 ≤ a.toNat ∧ a.toNat ≤ 126) ∧
         found.Pairwise (fun a b => a.toNat < b.toNat))

/-- I2C.Write with every tested byte acknowledged (R201): START, the address, the register, the data bytes, STOP, each
byte flushed and its acknowledgment read. The address and the register are tested always, a data byte where
`P_I2C_CHECK_DATA_ACK` is true; where it is false, an unacknowledged data byte does not end the transaction. -/
def Obligations.I2cWriteSendsTheTransaction : Prop :=
  ∀ (s : State) (a7 : Addr7) (reg : Byte) (data acks : Bytes) (rest : List Answer),
    s.params.opc.toList.Nodup → s.accounted → s.i2c.ready = true → s.i2c.fsm = .idle →
    acks.length = 2 + data.length →
    (∀ k < acks.length, k < 2 ∨ s.params.checkDataAck = true → isAck (acks.getD k 0) = true) →
    s.script = acks.flatMap byteAnswers ++ plainAnswer :: rest →
    exec (.i2cWrite a7 reg data) s = .next { s with
      resp := .ok .unit
      script := rest
      calls := s.calls + (2 * (2 + data.length) + 1)
      xp.wire := s.xp.wire ++ s.xp.cb ++ i2cStartSeq s ++ sentBytes s.params (frame a7 .zero :: reg :: data) ++
        i2cStopSeq s
      xp.cb := []
      xp.rxq := [] }

/-- A missing acknowledgment of byte-out `k` of I2C.Write (R200, R201): STOP, then ProtocolNack(k); no later byte is
sent. Of the data bytes where `P_I2C_CHECK_DATA_ACK` is true. -/
def Obligations.I2cWriteStopsAtAMissingAck : Prop :=
  ∀ (s : State) (a7 : Addr7) (reg r : Byte) (data acks : Bytes) (rest : List Answer),
    s.params.opc.toList.Nodup → s.accounted → s.i2c.ready = true → s.i2c.fsm = .idle →
    acks.length < 2 + data.length → (∀ x ∈ acks, isAck x = true) → isAck r = false →
    acks.length < 2 ∨ s.params.checkDataAck = true →
    s.script = (acks ++ [r]).flatMap byteAnswers ++ plainAnswer :: rest →
    exec (.i2cWrite a7 reg data) s = .next { s with
      resp := .error (.protocolNack acks.length)
      script := rest
      calls := s.calls + (2 * (acks.length + 1) + 1)
      xp.wire := s.xp.wire ++ s.xp.cb ++ i2cStartSeq s ++
        sentBytes s.params ((frame a7 .zero :: reg :: data).take (acks.length + 1)) ++ i2cStopSeq s
      xp.cb := []
      xp.rxq := [] }

/-- I2C.Read with the header acknowledged (R202): START, address to write, register, repeated START, address to read,
`n` byte-ins acknowledged but the last, STOP; the result is the `n` bytes in order. A count of 0 is InvalidArgument. -/
def Obligations.I2cReadReturnsTheBytes : Prop :=
  ∀ (s : State) (a7 : Addr7) (reg h0 h1 h2 : Byte) (data : Bytes) (rest : List Answer),
    s.i2c.ready = true → s.i2c.fsm = .idle →
    exec (.i2cRead a7 reg 0) s = .next { s with resp := .error .invalidArgument } ∧
    (s.params.opc.toList.Nodup → s.accounted → 1 ≤ data.length →
      isAck h0 = true → isAck h1 = true → isAck h2 = true →
      s.script = ([h0, h1, h2] ++ data).flatMap byteAnswers ++ plainAnswer :: rest →
      exec (.i2cRead a7 reg data.length) s = .next { s with
        resp := .ok (.bytes data)
        script := rest
        calls := s.calls + (2 * (3 + data.length) + 1)
        xp.wire := s.xp.wire ++ s.xp.cb ++ i2cStartSeq s ++ sentBytes s.params [frame a7 .zero, reg] ++
          i2cStartSeq s ++ sentBytes s.params [frame a7 .one] ++ receivedBytes s.params data.length ++ i2cStopSeq s
        xp.cb := []
        xp.rxq := [] })

/-- A missing acknowledgment of byte-out `k` of I2C.Read's header (R200, R202), `k` 0 the address to write, 1 the
register, 2 the address to read: STOP, then ProtocolNack(k); no later byte is sent and none received. -/
def Obligations.I2cReadStopsAtAMissingAck : Prop :=
  ∀ (s : State) (a7 : Addr7) (reg r : Byte) (n : Nat) (acks : Bytes) (rest : List Answer),
    s.params.opc.toList.Nodup → s.accounted → s.i2c.ready = true → s.i2c.fsm = .idle → 1 ≤ n →
    acks.length < 3 → (∀ x ∈ acks, isAck x = true) → isAck r = false →
    s.script = (acks ++ [r]).flatMap byteAnswers ++ plainAnswer :: rest →
    exec (.i2cRead a7 reg n) s = .next { s with
      resp := .error (.protocolNack acks.length)
      script := rest
      calls := s.calls + (2 * (acks.length + 1) + 1)
      xp.wire := s.xp.wire ++ s.xp.cb ++ ((readHeader s a7 reg).take (acks.length + 1)).flatten ++ i2cStopSeq s
      xp.cb := []
      xp.rxq := [] }

/-- I2C.FastWrite (R203): one batch, STOP included, one flush, one read; the lowest checked index without an
acknowledgment is the ProtocolNack. -/
def Obligations.I2cFastWriteBatches : Prop :=
  ∀ (s : State) (a7 : Addr7) (reg : Byte) (data : Bytes), s.i2c.ready = true → s.i2c.fsm = .idle →
    let s1 : State := { s with
      i2c.fsm := .stopped
      xp.cb := s.xp.cb ++ fastWriteBytes s a7 reg data }
    exec (.i2cFastWrite a7 reg data) s = .next (idle (flushThen s1 fun t =>
      readThen t (2 + data.length) fun r u =>
        match (List.range (2 + data.length)).find? fun j =>
            (decide (j < 2) || s.params.checkDataAck) && !isAck (r.getD j 0) with
        | none => { u with resp := .ok .unit }
        | some j => { u with resp := .error (.protocolNack j) }))

/-- I2C.FastRead (R204): one batch, one flush, one read of `3 + n` bytes; a header byte without an acknowledgment is the
ProtocolNack and discards the data; else the last `n` bytes are the result. A count of 0 is InvalidArgument. -/
def Obligations.I2cFastReadBatches : Prop :=
  ∀ (s : State) (a7 : Addr7) (reg : Byte) (n : Nat), s.i2c.ready = true → s.i2c.fsm = .idle →
    exec (.i2cFastRead a7 reg 0) s = .next { s with resp := .error .invalidArgument } ∧
    (1 ≤ n →
      let s1 : State := { s with
        i2c.fsm := .stopped
        xp.cb := s.xp.cb ++ fastReadBytes s a7 reg n }
      exec (.i2cFastRead a7 reg n) s = .next (idle (flushThen s1 fun t =>
        readThen t (3 + n) fun r u =>
          match (List.range 3).find? fun j => !isAck (r.getD j 0) with
          | none => { u with resp := .ok (.bytes (r.drop 3)) }
          | some j => { u with resp := .error (.protocolNack j) })))

/-- I2C.Write of no data is its primitives: where it ends OK, Start, SendAddress, SendByte and Stop, each with its own
response, end in the same state. -/
def Obligations.I2cWriteIsItsPrimitives : Prop :=
  ∀ (s t : State) (a7 : Addr7) (reg : Byte), exec (.i2cWrite a7 reg []) s = .next t → t.resp = .ok .unit →
    ∃ t1 t2 t3 : State, exec .i2cStart s = .next t1 ∧
      exec (.i2cSendAddress a7 .zero) t1 = .next t2 ∧ t2.resp = .ok (.bool true) ∧
      exec (.i2cSendByte reg) t2 = .next t3 ∧ t3.resp = .ok (.bool true) ∧
      exec .i2cStop t3 = .next t

/-- A TransportFailure in any I2C request leaves the unit Idle (R205, R308). -/
def Obligations.I2cTransportFailureLeavesIdle : Prop :=
  ∀ (i : Instr) (s t : State), familyOf i.op = .i2c → exec i s = .next t → t.resp = .error .transportFailure →
    t.i2c.fsm = .idle

/-- A ProtocolNack comes from I2C.Write, I2C.Read, I2C.FastWrite and I2C.FastRead only (R303), after the STOP was
enqueued and flushed: `WIRE` holds what awaited delivery and then the bytes of the transaction, ending with
`I2C_STOP_SEQ` (on the fast path with its SendImmediate after it), the unit is Idle and nothing awaits a flush (R310). -/
def Obligations.ProtocolNackComesAfterTheStop : Prop :=
  ∀ (i : Instr) (s t : State) (k : Nat), exec i s = .next t → t.resp = .error (.protocolNack k) →
    i.op ∈ [Op.i2cWrite, Op.i2cRead, Op.i2cFastWrite, Op.i2cFastRead] ∧ t.i2c.fsm = .idle ∧ t.xp.cb = [] ∧
    ∃ sent : Bytes, t.xp.wire = s.xp.wire ++ s.xp.cb ++ sent ++ i2cStopSeq s ++
      if i.op ∈ [Op.i2cFastWrite, Op.i2cFastRead] then immediateBytes s.params else []

/-! ## SPI -/

/-- Mode and order select the command pair (R231): data goes out on the falling edge in Mode0 and on the rising edge in
Mode2, in the write and the duplex command alike, is sampled on the other edge, in the unit's bit order. -/
def Obligations.SpiModeAndOrderSelectTheCommands : Prop :=
  ∀ (mode : Mode) (order : Order),
    let out := match mode with
      | .mode0 => Edge.minus
      | .mode2 => Edge.plus
    let inp := match mode with
      | .mode0 => Edge.plus
      | .mode2 => Edge.minus
    transferOf (spiOps mode order).1 = some ⟨false, some out, none, order⟩ ∧
    transferOf (spiOps mode order).2 = some ⟨false, some out, some inp, order⟩

/-- The chip-select command (R232) and the data/command pin command (R264), byte by byte. -/
def Obligations.PinCommandBytes : Prop :=
  ∀ (s : State) (level : Bit),
    csCmd s level = [s.params.opcOf .setDataBitsLow,
      (s.spi.lowVal &&& ~~~s.spi.csPin) ||| (if level = .one then s.spi.csPin else 0),
      s.spi.lowDir ||| s.spi.csPin ||| s.params.pinDo ||| s.params.pinClk] ∧
    (∀ rst : Rst, dcCmd s level rst = [s.params.opcOf .setDataBitsHigh,
      (s.dc.highVal &&& ~~~(s.dc.dcPin ||| s.dc.rstPin)) ||| (if level = .one then s.dc.dcPin else 0) |||
        (if (rst = .active ↔ s.params.rstActive = .one) then s.dc.rstPin else 0),
      s.dc.highDir ||| s.dc.dcPin ||| s.dc.rstPin])

/-- SPI.Init (R238, R233, R234): in any state; ready exactly when the flush succeeds; an illegal mask changes nothing. -/
def Obligations.SpiInitSelectsNothing : Prop :=
  ∀ (s : State) (mode : Mode) (order : Order) (csPin : Byte) (policy : CsPolicy) (lowVal lowDir : Byte),
    let legal := csPin ≠ 0 ∧ csPin &&& (s.params.pinClk ||| s.params.pinDo ||| s.params.pinDi) = 0
    let level := if policy = .activeLow ∨ policy = .defaultHigh then Bit.one else Bit.zero
    let s0 : State := { s with
      spi.mode := mode
      spi.order := order
      spi.csPin := csPin
      spi.policy := policy
      spi.lowVal := lowVal
      spi.lowDir := lowDir
      spi.csLevel := level
      dc.present := false }
    let s1 : State := { s0 with xp.cb := s.xp.cb ++ csCmd s0 level }
    (legal → s1.answer.ok = true → exec (.spiInit mode order csPin policy lowVal lowDir) s =
      .next { s1.flushed with spi.ready := true, resp := .ok .unit }) ∧
    (legal → s1.answer.ok = false → exec (.spiInit mode order csPin policy lowVal lowDir) s =
      .next { s1.flushLost with spi.ready := false, resp := .error .transportFailure }) ∧
    (¬ legal → exec (.spiInit mode order csPin policy lowVal lowDir) s =
      .next { s with resp := .error .invalidArgument })

/-- SPI.SetCsLevel, SPI.Enable and SPI.Disable (R239 to R241, R235, R236): the level and its command in one step,
appended only; under a default-level policy Enable and Disable do nothing. With the level Init uses, that is the whole
table of R234. -/
def Obligations.SpiLevelRequests : Prop :=
  ∀ s : State, s.spi.ready = true →
    (∀ level : Bit, exec (.spiSetCsLevel level) s = .next { s with
      resp := .ok .unit
      spi.csLevel := level
      xp.cb := s.xp.cb ++ csCmd s level }) ∧
    exec .spiEnable s = .next { s with
      resp := .ok .unit
      spi.csLevel := openedLevel s
      xp.cb := s.xp.cb ++ openBytes s } ∧
    exec .spiDisable s = .next { s with
      resp := .ok .unit
      spi.csLevel := closedLevel s
      xp.cb := s.xp.cb ++ closeBytes s } ∧
    ∀ policy : CsPolicy, initialLevel policy = initLevel policy

/-- SPI.Write (R242, R237): enable, one transfer command with the whole payload, disable, one flush; a payload of 0 or
more than 65536 bytes changes nothing (R244). -/
def Obligations.SpiWriteBrackets : Prop :=
  ∀ (s : State) (payload : Bytes), s.spi.ready = true →
    let s1 : State := { s with
      spi.csLevel := closedLevel s
      xp.cb := s.xp.cb ++ openBytes s ++ transferBytes s.params (writeCmd s) payload ++ closeBytes s }
    (1 ≤ payload.length → payload.length ≤ 65536 →
      exec (.spiWrite payload) s = .next (flushThen s1 fun t => { t with resp := .ok .unit })) ∧
    (payload.length = 0 ∨ payload.length > 65536 →
      exec (.spiWrite payload) s = .next { s with resp := .error .invalidArgument })

/-- SPI.Transfer (R243, R237): as SPI.Write with the duplex command, then a read of as many bytes as were sent. -/
def Obligations.SpiTransferBrackets : Prop :=
  ∀ (s : State) (payload : Bytes), s.spi.ready = true →
    let s1 : State := { s with
      spi.csLevel := closedLevel s
      xp.cb := s.xp.cb ++ openBytes s ++ transferBytes s.params (duplexCmd s) payload ++ closeBytes s }
    (1 ≤ payload.length → payload.length ≤ 65536 →
      exec (.spiTransfer payload) s = .next (flushThen s1 fun t =>
        readThen t payload.length fun r u => { u with resp := .ok (.bytes r) })) ∧
    (payload.length = 0 ∨ payload.length > 65536 →
      exec (.spiTransfer payload) s = .next { s with resp := .error .invalidArgument })

/-! ## DC -/

/-- DC.Init (R262, R233, R261): in any state; ready and present exactly when the flush succeeds; an illegal mask changes
nothing. -/
def Obligations.DcInitReleasesReset : Prop :=
  ∀ (s : State) (mode : Mode) (order : Order) (csPin : Byte) (policy : CsPolicy)
    (lowVal lowDir dcPin rstPin highVal highDir : Byte),
    let legal := csPin ≠ 0 ∧ csPin &&& (s.params.pinClk ||| s.params.pinDo ||| s.params.pinDi) = 0 ∧
      dcPin ≠ 0 ∧ dcPin &&& rstPin = 0
    let level := if policy = .activeLow ∨ policy = .defaultHigh then Bit.one else Bit.zero
    let s0 : State := { s with
      spi.mode := mode
      spi.order := order
      spi.csPin := csPin
      spi.policy := policy
      spi.lowVal := lowVal
      spi.lowDir := lowDir
      spi.csLevel := level
      dc.dcPin := dcPin
      dc.rstPin := rstPin
      dc.highVal := highVal
      dc.highDir := highDir
      dc.dcLevel := .one }
    let s1 : State := { s0 with xp.cb := s.xp.cb ++ csCmd s0 level ++ dcCmd s0 .one .inactive }
    (legal → s1.answer.ok = true →
      exec (.dcInit mode order csPin policy lowVal lowDir dcPin rstPin highVal highDir) s =
        .next { s1.flushed with spi.ready := true, dc.present := true, resp := .ok .unit }) ∧
    (legal → s1.answer.ok = false →
      exec (.dcInit mode order csPin policy lowVal lowDir dcPin rstPin highVal highDir) s =
        .next { s1.flushLost with spi.ready := false, dc.present := false, resp := .error .transportFailure }) ∧
    (¬ legal → exec (.dcInit mode order csPin policy lowVal lowDir dcPin rstPin highVal highDir) s =
      .next { s with resp := .error .invalidArgument })

/-- DC.SetDcLevel (R263, R265): a command is level 0, data level 1; reset inactive; appended only. -/
def Obligations.DcSetDcLevelAppends : Prop :=
  ∀ (s : State) (isCommand : Bool), s.spi.ready = true → s.dc.present = true →
    let level := if isCommand then Bit.zero else Bit.one
    exec (.dcSetDcLevel isCommand) s = .next { s with
      resp := .ok .unit
      dc.dcLevel := level
      xp.cb := s.xp.cb ++ dcCmd s level .inactive }

/-- DC.Write (R267, R277): enable, one pin command, the chunks, disable, one flush; an empty payload changes nothing. -/
def Obligations.DcWriteBrackets : Prop :=
  ∀ (s : State) (payload : Bytes) (isCommand : Bool), s.spi.ready = true → s.dc.present = true →
    let level := if isCommand then Bit.zero else Bit.one
    let s1 : State := { s with
      spi.csLevel := closedLevel s
      dc.dcLevel := level
      xp.cb := s.xp.cb ++ dcTransferBytes s (writeCmd s) payload isCommand }
    (1 ≤ payload.length → exec (.dcWrite payload isCommand) s =
      .next (flushThen s1 fun t => { t with resp := .ok .unit })) ∧
    (payload = [] → exec (.dcWrite payload isCommand) s = .next { s with resp := .error .invalidArgument })

/-- DC.Transfer (R268, R277): as DC.Write with the duplex command, then one read of as many bytes as were sent. -/
def Obligations.DcTransferBrackets : Prop :=
  ∀ (s : State) (payload : Bytes) (isCommand : Bool), s.spi.ready = true → s.dc.present = true →
    let level := if isCommand then Bit.zero else Bit.one
    let s1 : State := { s with
      spi.csLevel := closedLevel s
      dc.dcLevel := level
      xp.cb := s.xp.cb ++ dcTransferBytes s (duplexCmd s) payload isCommand }
    (1 ≤ payload.length → exec (.dcTransfer payload isCommand) s =
      .next (flushThen s1 fun t => readThen t payload.length fun r u => { u with resp := .ok (.bytes r) })) ∧
    (payload = [] → exec (.dcTransfer payload isCommand) s = .next { s with resp := .error .invalidArgument })

/-- DC.CommandStream (R270, R272, R277): the whole buffer is parsed first; then one bracket round all entries, each its
command byte under a command pin command and its arguments, if any, under a data one; a malformed buffer changes
nothing. -/
def Obligations.DcCommandStreamPlaysTheEntries : Prop :=
  ∀ (s : State) (buf : Bytes), s.spi.ready = true → s.dc.present = true →
    (∀ entries : List (Nat × Nat), parseStream buf = .ok entries →
      let s1 : State := { s with
        spi.csLevel := closedLevel s
        dc.dcLevel := levelAfterStream s entries
        xp.cb := s.xp.cb ++ openBytes s ++ entries.flatMap (entryBytes s buf) ++ closeBytes s }
      exec (.dcCommandStream buf) s = .next (flushThen s1 fun t => { t with resp := .ok .unit })) ∧
    (∀ e : Error, parseStream buf = .error e →
      exec (.dcCommandStream buf) s = .next { s with resp := .error .invalidArgument })

/-- DC.ResetDance (R274): five toggles with reset inactive, a sixth with reset active, one flush; `DC_LEVEL` ends where
it began. -/
def Obligations.DcResetDanceTogglesSixTimes : Prop :=
  ∀ s : State, s.spi.ready = true → s.dc.present = true →
    let s1 : State := { s with xp.cb := s.xp.cb ++ danceBytes s }
    exec .dcResetDance s = .next (flushThen s1 fun t => { t with resp := .ok .unit })

/-- DC.ResetTimed (R275, R276): reset asserted, flush, wait `ms1`, released, flush, wait `ms2`; `DC_LEVEL` unchanged. The
record of the waits is the model's (log 13). -/
def Obligations.DcResetTimedAssertsThenReleases : Prop :=
  ∀ (s : State) (ms1 ms2 : Millis), s.spi.ready = true → s.dc.present = true →
    let s1 : State := { s with xp.cb := s.xp.cb ++ dcCmd s s.dc.dcLevel .active }
    exec (.dcResetTimed ms1 ms2) s = .next (flushThen s1 fun t =>
      flushThen { t with waited := s.waited ++ [ms1], xp.cb := dcCmd s s.dc.dcLevel .inactive } fun u =>
        { u with waited := s.waited ++ [ms1] ++ [ms2], resp := .ok .unit })

/-- Chunking (R266): up to 65536 bytes one command; beyond, contiguous chunks from offset 0, each of at most 65535
bytes and none empty, every chunk full but the last, whose lengths sum to the payload's. -/
def Obligations.ChunksCoverThePayload : Prop :=
  ∀ len : Nat, 1 ≤ len →
    (len ≤ 65536 → dcChunks len = [(0, len)]) ∧
    (65536 < len →
      (∀ c ∈ dcChunks len, 1 ≤ c.2 ∧ c.2 ≤ 65535) ∧
      (∀ c ∈ (dcChunks len).dropLast, c.2 = 65535)) ∧
    ((dcChunks len).map Prod.snd).sum = len ∧
    (∀ k : Nat, (h : k < (dcChunks len).length) →
      ((dcChunks len)[k]).1 = (((dcChunks len).take k).map Prod.snd).sum)

/-- `parse_stream` (R269 to R271). A buffer that is the image of a list of entries, given as command byte, top bit of
the count byte and arguments, parses to them, so buffers that differ only in top bits parse alike. After such an image a
command byte with no count byte, or with fewer argument bytes than its count byte's low 7 bits say, is malformed. -/
def Obligations.StreamParsesItsEntriesIgnoringTopBits : Prop :=
  ∀ entries : List (Byte × Bool × Bytes), (∀ e ∈ entries, e.2.2.length ≤ 127) →
    let image := fun e : Byte × Bool × Bytes =>
      e.1 :: BitVec.ofNat 8 (e.2.2.length + if e.2.1 then 128 else 0) :: e.2.2
    parseStream (entries.flatMap image) =
      .ok ((List.range entries.length).map fun k =>
        (((entries.take k).flatMap image).length, ((entries.map fun e => e.2.2.length).getD k 0))) ∧
    (∀ c : Byte, parseStream (entries.flatMap image ++ [c]) = .error .invalidArgument) ∧
    (∀ (c count : Byte) (args : Bytes), args.length < count.toNat % 128 →
      parseStream (entries.flatMap image ++ c :: count :: args) = .error .invalidArgument)

/-! ## The whole machine -/

/-- Every step keeps the register invariant: no requester sees Stopped (R30), no open transaction in a unit that is not
ready, timing counts never zero (R32), legal pins in a ready unit (R34, R41, R42), the DC capability only on a ready unit
(R40). -/
def Obligations.StepKeepsTheInvariant : Prop :=
  ∀ s t : State, s.inv → step s = .next t → t.inv

/-- The invariant holds after reset. That the timing counts are not zero there is the model's choice (log 15). -/
def Obligations.ResetMeetsTheInvariant : Prop := State.reset.inv ∧ State.reset.accounted

/-- The reset values that the spec gives (R29, R30, R33, R40, R46, R330, R331), at launch and for a block reset in use,
which leaves `CB`, `RXQ` and `WIRE` alone (R331). -/
def Obligations.ResetValuesOfTheSpec : Prop :=
  State.reset.i2c.ready = false ∧ State.reset.i2c.fsm = .idle ∧ State.reset.spi.ready = false ∧
  State.reset.dc.present = false ∧ State.reset.xp.cb = [] ∧ State.reset.xp.rxq = [] ∧ State.reset.xp.wire = [] ∧
  ∀ s : State, s.blockReset.i2c.ready = false ∧ s.blockReset.i2c.fsm = .idle ∧ s.blockReset.spi.ready = false ∧
    s.blockReset.dc.present = false ∧ s.blockReset.xp.cb = s.xp.cb ∧ s.blockReset.xp.rxq = s.xp.rxq ∧
    s.blockReset.xp.wire = s.xp.wire

/-- A request that ends with InvalidArgument changes nothing but its response (R302, R307, R244). -/
def Obligations.InvalidArgumentChangesNothing : Prop :=
  ∀ (i : Instr) (s t : State), exec i s = .next t → t.resp = .error .invalidArgument →
    t = { s with resp := .error .invalidArgument }

/-- Every I2C, SPI and DC request that does not end with TransportFailure reads exactly the response bytes its commands
produce (R75): if the responses are accounted for before it, they are after it. -/
def Obligations.SequencersReadAllTheirResponses : Prop :=
  ∀ (i : Instr) (s t : State), familyOf i.op = .i2c ∨ familyOf i.op = .spi ∨ familyOf i.op = .dc →
    s.params.opc.toList.Nodup → s.accounted → exec i s = .next t → t.resp ≠ .error .transportFailure → t.accounted

/-- `WIRE` only grows (R70). Unless a request fails with TransportFailure or is XP.ClearOutput, what was delivered and
what awaits delivery, in order, is what it was and then exactly the bytes the request's rule enqueues (`enqueuedBy`):
none is dropped, duplicated or reordered on its way to `WIRE` (R70, R78). A request that ends with InvalidArgument
enqueues nothing (R307). -/
def Obligations.BytesReachTheWireInOrder : Prop :=
  ∀ (i : Instr) (s t : State), exec i s = .next t →
    (∃ sent : Bytes, t.xp.wire = s.xp.wire ++ sent) ∧
    (t.resp ≠ .error .transportFailure → i ≠ .xpClearOutput → t.xp.wire ++ t.xp.cb = s.xp.wire ++ s.xp.cb ++
      if t.resp = .error .invalidArgument then [] else enqueuedBy i s t.resp)

/-- What each family leaves alone, however the request ends. No request changes the parameters or what is presented
after it. A function form changes only the response, an ENC request only that and `CB` (R122, R124). An I2C request
leaves the SPI and DC registers, an SPI or DC request the I2C registers, both the transport's settings (R28); SPI
requests touch of the DC registers only `DC_PRESENT` (R260, R238); XP requests touch no register of a unit (R297). Of
the unit's own registers (R308) an I2C request but I2C.Init and I2C.SetTiming changes `I2C_FSM` only, I2C.SetTiming the
five counts only, an SPI request but SPI.Init `CS_LEVEL` only, a DC request but DC.Init `CS_LEVEL` and `DC_LEVEL` only. -/
def Obligations.FamiliesLeaveTheOthersAlone : Prop :=
  ∀ (i : Instr) (s t : State), exec i s = .next t →
    t.params = s.params ∧ t.port = s.port ∧ t.encPort = s.encPort ∧
    (familyOf i.op = .function → t = { s with resp := t.resp }) ∧
    (familyOf i.op = .enc → t = { s with resp := t.resp, xp.cb := t.xp.cb }) ∧
    (familyOf i.op = .i2c → t.spi = s.spi ∧ t.dc = s.dc ∧ t.waited = s.waited ∧ t.xp.clkdiv = s.xp.clkdiv ∧
      t.xp.loopback = s.xp.loopback) ∧
    (familyOf i.op = .i2c → i.op ∉ [Op.i2cInit, Op.i2cSetTiming] → t.i2c = { s.i2c with fsm := t.i2c.fsm }) ∧
    (i.op = .i2cSetTiming →
      t.i2c.ready = s.i2c.ready ∧ t.i2c.fsm = s.i2c.fsm ∧ t.i2c.clkdiv = s.i2c.clkdiv ∧ t.xp = s.xp) ∧
    (familyOf i.op = .spi → t.i2c = s.i2c ∧ t.dc = { s.dc with present := t.dc.present } ∧ t.waited = s.waited ∧
      t.xp.clkdiv = s.xp.clkdiv ∧ t.xp.loopback = s.xp.loopback) ∧
    (familyOf i.op = .spi → i.op ≠ .spiInit → t.spi = { s.spi with csLevel := t.spi.csLevel } ∧ t.dc = s.dc) ∧
    (familyOf i.op = .dc → t.i2c = s.i2c ∧ t.xp.clkdiv = s.xp.clkdiv ∧ t.xp.loopback = s.xp.loopback) ∧
    (familyOf i.op = .dc → i.op ≠ .dcInit → t.spi = { s.spi with csLevel := t.spi.csLevel } ∧
      t.dc = { s.dc with dcLevel := t.dc.dcLevel }) ∧
    (familyOf i.op = .xp → t.i2c = s.i2c ∧ t.spi = s.spi ∧ t.dc = s.dc ∧ t.waited = s.waited)

/-- The refusals are exactly those of R207, R248, R280 and R333: no request faults, and a request is refused exactly when
its unit is not ready, its capability is absent, or its `I2C_FSM` state is not one R184 allows. Function forms, ENC and XP
requests and the three Inits are never refused (R297). -/
def Obligations.RefusalsAreExactlyTheRules : Prop :=
  ∀ (i : Instr) (s : State),
    let isInit := i.op ∈ [Op.i2cInit, Op.spiInit, Op.dcInit]
    let opened := s.i2c.fsm = .started ∨ s.i2c.fsm = .byteOut ∨ s.i2c.fsm = .byteIn
    let allowed :=
      (i.op ∈ [Op.i2cStart] → s.i2c.fsm = .idle ∨ opened) ∧
      (i.op ∈ [Op.i2cStop, Op.i2cSendByte, Op.i2cReceiveByte] → opened) ∧
      (i.op ∈ [Op.i2cSendAddress] → s.i2c.fsm = .started) ∧
      (i.op ∈ [Op.i2cScan, Op.i2cWrite, Op.i2cRead, Op.i2cFastWrite, Op.i2cFastRead] → s.i2c.fsm = .idle)
    let legal := isInit ∨ familyOf i.op = .function ∨ familyOf i.op = .enc ∨ familyOf i.op = .xp ∨
      (familyOf i.op = .i2c ∧ s.i2c.ready = true ∧ allowed) ∨
      (familyOf i.op = .spi ∧ s.spi.ready = true) ∨
      (familyOf i.op = .dc ∧ s.spi.ready = true ∧ s.dc.present = true)
    (legal → ∃ t : State, exec i s = .next t) ∧ (¬ legal → ∃ r : Refusal, exec i s = .refused r)
end

