-- ==== Sys2Proof/Laws/Encode.lean ====
section
/-! SUPPORT. What each operand reader does with what its writer wrote, said once per operand form. -/

namespace Sys2Proof

theorem halfOf_lo8_hi8 (v : Half) : halfOf (lo8 v) (hi8 v) = v := by
  apply BitVec.eq_of_getLsbD_eq
  intro i hi
  simp only [halfOf, lo8, hi8, BitVec.getLsbD_append, BitVec.getLsbD_extractLsb']
  by_cases h : i < 8
  · simp [h]
  · have h8 : i - 8 < 8 := by omega
    have he : 8 + (i - 8) = i := by omega
    simp [h, h8, he]

theorem lo8_toNat (v : Half) : (lo8 v).toNat = v.toNat % 256 := by
  simp [lo8, BitVec.extractLsb'_toNat]

theorem hi8_toNat (v : Half) : (hi8 v).toNat = v.toNat / 256 := by
  have := v.isLt
  simp [hi8, BitVec.extractLsb'_toNat, Nat.shiftRight_eq_div_pow]
  omega

@[simp] theorem readDone_apply (i : Instr) (r : Bytes) : readDone i r = .ok (i, r) := rfl

@[simp] theorem readByte_cons (k : Byte → Reader) (b : Byte) (r : Bytes) : readByte k (b :: r) = k b r := rfl

@[simp] theorem readHalf_leHalf (k : Half → Reader) (v : Half) (r : Bytes) : readHalf k (leHalf v ++ r) = k v r := by
  simp [readHalf, leHalf, halfOf_lo8_hi8]

@[simp] theorem readMillis_putMillis (k : Millis → Reader) (ms : Millis) (r : Bytes) :
    readMillis k (putMillis ms ++ r) = k ms r := by
  have h : (ms.extractLsb' 16 16 ++ ms.extractLsb' 0 16 : BitVec 32) = ms := by
    apply BitVec.eq_of_getLsbD_eq
    intro i hi
    simp only [BitVec.getLsbD_append, BitVec.getLsbD_extractLsb']
    by_cases h : i < 16
    · simp [h]
    · have h8 : i - 16 < 16 := by omega
      have he : 16 + (i - 16) = i := by omega
      simp [h, h8, he]
  simp only [readMillis, putMillis, List.append_assoc, readHalf_leHalf]
  exact congrArg (fun x => k x r) h

@[simp] theorem readBool_putBool (k : Bool → Reader) (b : Bool) (r : Bytes) : readBool k (putBool b ++ r) = k b r := by
  cases b <;> simp [readBool, putBool]

@[simp] theorem readBit_putBit (k : Bit → Reader) (b : Bit) (r : Bytes) : readBit k (putBit b ++ r) = k b r := by
  cases b <;> simp [readBit, putBit]

@[simp] theorem readMode_putMode (k : Mode → Reader) (m : Mode) (r : Bytes) : readMode k (putMode m ++ r) = k m r := by
  cases m <;> simp [readMode, putMode]

@[simp] theorem readOrder_putOrder (k : Order → Reader) (o : Order) (r : Bytes) :
    readOrder k (putOrder o ++ r) = k o r := by
  cases o <;> simp [readOrder, putOrder]

@[simp] theorem readPolicy_putPolicy (k : CsPolicy → Reader) (p : CsPolicy) (r : Bytes) :
    readPolicy k (putPolicy p ++ r) = k p r := by
  cases p <;> simp [readPolicy, putPolicy]

@[simp] theorem readAddr7_putAddr7 (k : Addr7 → Reader) (a : Addr7) (r : Bytes) :
    readAddr7 k (putAddr7 a ++ r) = k a r := by
  have h : a.setWidth 8 < 128 := by
    rw [BitVec.lt_def, BitVec.toNat_setWidth]
    have := a.isLt
    simp
    omega
  have hw : (a.setWidth 8).setWidth 7 = a := by
    apply BitVec.eq_of_toNat_eq
    simp
  simp only [readAddr7, putAddr7, List.singleton_append, readByte_cons, if_pos h, hw]

theorem natOf_putNatGroups (fuel n : Nat) (r : Bytes) (h : n ≤ fuel) : natOf (putNatGroups fuel n ++ r) = .ok (n, r) := by
  induction fuel generalizing n with
  | zero =>
    obtain rfl : n = 0 := by omega
    simp [putNatGroups, natOf]
  | succ fuel ih =>
    unfold putNatGroups
    by_cases hn : n < 128
    · have ht : (BitVec.ofNat 8 n).toNat = n := by simp; omega
      simp [hn, natOf, ht]
      omega
    · have hlt : ¬ (BitVec.ofNat 8 (n % 128 + 128)) < 128 := by
        rw [BitVec.lt_def]; simp; omega
      have ht : (BitVec.ofNat 8 (n % 128 + 128)).toNat = n % 128 + 128 := by simp; omega
      have h0 : n / 128 ≠ 0 := by omega
      rw [if_neg hn, List.cons_append, natOf, if_neg hlt, ih (n / 128) (by omega)]
      simp only [ht, if_neg h0]
      congr 2
      omega

@[simp] theorem readNat_putNat (k : Nat → Reader) (n : Nat) (r : Bytes) : readNat k (putNat n ++ r) = k n r := by
  simp [readNat, putNat, natOf_putNatGroups]

@[simp] theorem readOptNat_putOptNat (k : Option Nat → Reader) (o : Option Nat) (r : Bytes) :
    readOptNat k (putOptNat o ++ r) = k o r := by
  cases o <;> simp [readOptNat, putOptNat]

@[simp] theorem readTake_append (k : Bytes → Reader) (bs r : Bytes) : readTake bs.length k (bs ++ r) = k bs r := by
  simp [readTake]

@[simp] theorem readBytes_putBytes (k : Bytes → Reader) (bs r : Bytes) : readBytes k (putBytes bs ++ r) = k bs r := by
  simp [readBytes, putBytes]

theorem lengthField_toNat {len : Nat} (h : 1 ≤ len ∧ len ≤ 65536) : (BitVec.ofNat 16 (len - 1)).toNat + 1 = len := by
  simp
  omega

theorem readWireLen_wireLen (k : Nat → Reader) {len : Nat} (h : 1 ≤ len ∧ len ≤ 65536) (r : Bytes) :
    readWireLen k (wireLen len ++ r) = k len r := by
  simp only [readWireLen, wireLen, readHalf_leHalf, lengthField_toNat h]

theorem readWirePayload_wire (k : Bytes → Reader) {bs : Bytes} (h : 1 ≤ bs.length ∧ bs.length ≤ 65536) (r : Bytes) :
    readWirePayload k (wireLen bs.length ++ (bs ++ r)) = k bs r := by
  simp only [readWirePayload, readWireLen_wireLen _ h, readTake_append]

theorem readWireBits_wireBits (k : Nat → Reader) {count : Nat} (h : 1 ≤ count ∧ count ≤ 8) (r : Bytes) :
    readWireBits k (wireBits count ++ r) = k count r := by
  have ht : (BitVec.ofNat 8 (count - 1)).toNat = count - 1 := by simp; omega
  have hlt : BitVec.ofNat 8 (count - 1) < 8 := by rw [BitVec.lt_def, ht]; simp; omega
  have he : count - 1 + 1 = count := by omega
  simp only [readWireBits, wireBits, List.singleton_append, readByte_cons, if_pos hlt, ht, he]

end Sys2Proof
end

