-- ==== Sys2Proof/Laws/State.lean ====
section
/-! SUPPORT. The small lemmas of every state update: one per field, so that no proof unfolds a record update. -/

namespace Sys2Proof.Machine

/-! ### enqueue -/

@[simp] theorem State.enqueue_params (s : State) (bs : Bytes) : (s.enqueue bs).params = s.params := rfl

@[simp] theorem State.enqueue_port (s : State) (bs : Bytes) : (s.enqueue bs).port = s.port := rfl

@[simp] theorem State.enqueue_encPort (s : State) (bs : Bytes) : (s.enqueue bs).encPort = s.encPort := rfl

@[simp] theorem State.enqueue_resp (s : State) (bs : Bytes) : (s.enqueue bs).resp = s.resp := rfl

@[simp] theorem State.enqueue_script (s : State) (bs : Bytes) : (s.enqueue bs).script = s.script := rfl

@[simp] theorem State.enqueue_calls (s : State) (bs : Bytes) : (s.enqueue bs).calls = s.calls := rfl

@[simp] theorem State.enqueue_waited (s : State) (bs : Bytes) : (s.enqueue bs).waited = s.waited := rfl

@[simp] theorem State.enqueue_xp_cb (s : State) (bs : Bytes) : (s.enqueue bs).xp.cb = s.xp.cb ++ bs := rfl

@[simp] theorem State.enqueue_xp_rxq (s : State) (bs : Bytes) : (s.enqueue bs).xp.rxq = s.xp.rxq := rfl

@[simp] theorem State.enqueue_xp_wire (s : State) (bs : Bytes) : (s.enqueue bs).xp.wire = s.xp.wire := rfl

@[simp] theorem State.enqueue_xp_clkdiv (s : State) (bs : Bytes) : (s.enqueue bs).xp.clkdiv = s.xp.clkdiv := rfl

@[simp] theorem State.enqueue_xp_loopback (s : State) (bs : Bytes) : (s.enqueue bs).xp.loopback = s.xp.loopback := rfl

@[simp] theorem State.enqueue_i2c (s : State) (bs : Bytes) : (s.enqueue bs).i2c = s.i2c := rfl

@[simp] theorem State.enqueue_spi (s : State) (bs : Bytes) : (s.enqueue bs).spi = s.spi := rfl

@[simp] theorem State.enqueue_dc (s : State) (bs : Bytes) : (s.enqueue bs).dc = s.dc := rfl

/-! ### setFsm -/

@[simp] theorem State.setFsm_params (s : State) (f : Fsm) : (s.setFsm f).params = s.params := rfl

@[simp] theorem State.setFsm_port (s : State) (f : Fsm) : (s.setFsm f).port = s.port := rfl

@[simp] theorem State.setFsm_encPort (s : State) (f : Fsm) : (s.setFsm f).encPort = s.encPort := rfl

@[simp] theorem State.setFsm_resp (s : State) (f : Fsm) : (s.setFsm f).resp = s.resp := rfl

@[simp] theorem State.setFsm_script (s : State) (f : Fsm) : (s.setFsm f).script = s.script := rfl

@[simp] theorem State.setFsm_calls (s : State) (f : Fsm) : (s.setFsm f).calls = s.calls := rfl

@[simp] theorem State.setFsm_waited (s : State) (f : Fsm) : (s.setFsm f).waited = s.waited := rfl

@[simp] theorem State.setFsm_xp (s : State) (f : Fsm) : (s.setFsm f).xp = s.xp := rfl

@[simp] theorem State.setFsm_i2c_ready (s : State) (f : Fsm) : (s.setFsm f).i2c.ready = s.i2c.ready := rfl

@[simp] theorem State.setFsm_i2c_fsm (s : State) (f : Fsm) : (s.setFsm f).i2c.fsm = f := rfl

@[simp] theorem State.setFsm_i2c_clkdiv (s : State) (f : Fsm) : (s.setFsm f).i2c.clkdiv = s.i2c.clkdiv := rfl

@[simp] theorem State.setFsm_i2c_tStart1 (s : State) (f : Fsm) : (s.setFsm f).i2c.tStart1 = s.i2c.tStart1 := rfl

@[simp] theorem State.setFsm_i2c_tStart2 (s : State) (f : Fsm) : (s.setFsm f).i2c.tStart2 = s.i2c.tStart2 := rfl

@[simp] theorem State.setFsm_i2c_tStop1 (s : State) (f : Fsm) : (s.setFsm f).i2c.tStop1 = s.i2c.tStop1 := rfl

@[simp] theorem State.setFsm_i2c_tStop2 (s : State) (f : Fsm) : (s.setFsm f).i2c.tStop2 = s.i2c.tStop2 := rfl

@[simp] theorem State.setFsm_i2c_tStop3 (s : State) (f : Fsm) : (s.setFsm f).i2c.tStop3 = s.i2c.tStop3 := rfl

@[simp] theorem State.setFsm_spi (s : State) (f : Fsm) : (s.setFsm f).spi = s.spi := rfl

@[simp] theorem State.setFsm_dc (s : State) (f : Fsm) : (s.setFsm f).dc = s.dc := rfl

/-! ### setI2cReady -/

@[simp] theorem State.setI2cReady_params (s : State) (b : Bool) : (s.setI2cReady b).params = s.params := rfl

@[simp] theorem State.setI2cReady_port (s : State) (b : Bool) : (s.setI2cReady b).port = s.port := rfl

@[simp] theorem State.setI2cReady_encPort (s : State) (b : Bool) : (s.setI2cReady b).encPort = s.encPort := rfl

@[simp] theorem State.setI2cReady_resp (s : State) (b : Bool) : (s.setI2cReady b).resp = s.resp := rfl

@[simp] theorem State.setI2cReady_script (s : State) (b : Bool) : (s.setI2cReady b).script = s.script := rfl

@[simp] theorem State.setI2cReady_calls (s : State) (b : Bool) : (s.setI2cReady b).calls = s.calls := rfl

@[simp] theorem State.setI2cReady_waited (s : State) (b : Bool) : (s.setI2cReady b).waited = s.waited := rfl

@[simp] theorem State.setI2cReady_xp (s : State) (b : Bool) : (s.setI2cReady b).xp = s.xp := rfl

@[simp] theorem State.setI2cReady_i2c_ready (s : State) (b : Bool) : (s.setI2cReady b).i2c.ready = b := rfl

@[simp] theorem State.setI2cReady_i2c_fsm (s : State) (b : Bool) : (s.setI2cReady b).i2c.fsm = s.i2c.fsm := rfl

@[simp] theorem State.setI2cReady_i2c_clkdiv (s : State) (b : Bool) :
    (s.setI2cReady b).i2c.clkdiv = s.i2c.clkdiv := rfl

@[simp] theorem State.setI2cReady_i2c_tStart1 (s : State) (b : Bool) :
    (s.setI2cReady b).i2c.tStart1 = s.i2c.tStart1 := rfl

@[simp] theorem State.setI2cReady_i2c_tStart2 (s : State) (b : Bool) :
    (s.setI2cReady b).i2c.tStart2 = s.i2c.tStart2 := rfl

@[simp] theorem State.setI2cReady_i2c_tStop1 (s : State) (b : Bool) :
    (s.setI2cReady b).i2c.tStop1 = s.i2c.tStop1 := rfl

@[simp] theorem State.setI2cReady_i2c_tStop2 (s : State) (b : Bool) :
    (s.setI2cReady b).i2c.tStop2 = s.i2c.tStop2 := rfl

@[simp] theorem State.setI2cReady_i2c_tStop3 (s : State) (b : Bool) :
    (s.setI2cReady b).i2c.tStop3 = s.i2c.tStop3 := rfl

@[simp] theorem State.setI2cReady_spi (s : State) (b : Bool) : (s.setI2cReady b).spi = s.spi := rfl

@[simp] theorem State.setI2cReady_dc (s : State) (b : Bool) : (s.setI2cReady b).dc = s.dc := rfl

/-! ### setI2cClkdiv -/

@[simp] theorem State.setI2cClkdiv_params (s : State) (d : Half) : (s.setI2cClkdiv d).params = s.params := rfl

@[simp] theorem State.setI2cClkdiv_port (s : State) (d : Half) : (s.setI2cClkdiv d).port = s.port := rfl

@[simp] theorem State.setI2cClkdiv_encPort (s : State) (d : Half) : (s.setI2cClkdiv d).encPort = s.encPort := rfl

@[simp] theorem State.setI2cClkdiv_resp (s : State) (d : Half) : (s.setI2cClkdiv d).resp = s.resp := rfl

@[simp] theorem State.setI2cClkdiv_script (s : State) (d : Half) : (s.setI2cClkdiv d).script = s.script := rfl

@[simp] theorem State.setI2cClkdiv_calls (s : State) (d : Half) : (s.setI2cClkdiv d).calls = s.calls := rfl

@[simp] theorem State.setI2cClkdiv_waited (s : State) (d : Half) : (s.setI2cClkdiv d).waited = s.waited := rfl

@[simp] theorem State.setI2cClkdiv_xp (s : State) (d : Half) : (s.setI2cClkdiv d).xp = s.xp := rfl

@[simp] theorem State.setI2cClkdiv_i2c_ready (s : State) (d : Half) :
    (s.setI2cClkdiv d).i2c.ready = s.i2c.ready := rfl

@[simp] theorem State.setI2cClkdiv_i2c_fsm (s : State) (d : Half) : (s.setI2cClkdiv d).i2c.fsm = s.i2c.fsm := rfl

@[simp] theorem State.setI2cClkdiv_i2c_clkdiv (s : State) (d : Half) : (s.setI2cClkdiv d).i2c.clkdiv = d := rfl

@[simp] theorem State.setI2cClkdiv_i2c_tStart1 (s : State) (d : Half) :
    (s.setI2cClkdiv d).i2c.tStart1 = s.i2c.tStart1 := rfl

@[simp] theorem State.setI2cClkdiv_i2c_tStart2 (s : State) (d : Half) :
    (s.setI2cClkdiv d).i2c.tStart2 = s.i2c.tStart2 := rfl

@[simp] theorem State.setI2cClkdiv_i2c_tStop1 (s : State) (d : Half) :
    (s.setI2cClkdiv d).i2c.tStop1 = s.i2c.tStop1 := rfl

@[simp] theorem State.setI2cClkdiv_i2c_tStop2 (s : State) (d : Half) :
    (s.setI2cClkdiv d).i2c.tStop2 = s.i2c.tStop2 := rfl

@[simp] theorem State.setI2cClkdiv_i2c_tStop3 (s : State) (d : Half) :
    (s.setI2cClkdiv d).i2c.tStop3 = s.i2c.tStop3 := rfl

@[simp] theorem State.setI2cClkdiv_spi (s : State) (d : Half) : (s.setI2cClkdiv d).spi = s.spi := rfl

@[simp] theorem State.setI2cClkdiv_dc (s : State) (d : Half) : (s.setI2cClkdiv d).dc = s.dc := rfl

/-! ### setTiming -/

@[simp] theorem State.setTiming_params (s : State) (t1 t2 t3 t4 t5 : Nat) :
    (s.setTiming t1 t2 t3 t4 t5).params = s.params := rfl

@[simp] theorem State.setTiming_port (s : State) (t1 t2 t3 t4 t5 : Nat) :
    (s.setTiming t1 t2 t3 t4 t5).port = s.port := rfl

@[simp] theorem State.setTiming_encPort (s : State) (t1 t2 t3 t4 t5 : Nat) :
    (s.setTiming t1 t2 t3 t4 t5).encPort = s.encPort := rfl

@[simp] theorem State.setTiming_resp (s : State) (t1 t2 t3 t4 t5 : Nat) :
    (s.setTiming t1 t2 t3 t4 t5).resp = s.resp := rfl

@[simp] theorem State.setTiming_script (s : State) (t1 t2 t3 t4 t5 : Nat) :
    (s.setTiming t1 t2 t3 t4 t5).script = s.script := rfl

@[simp] theorem State.setTiming_calls (s : State) (t1 t2 t3 t4 t5 : Nat) :
    (s.setTiming t1 t2 t3 t4 t5).calls = s.calls := rfl

@[simp] theorem State.setTiming_waited (s : State) (t1 t2 t3 t4 t5 : Nat) :
    (s.setTiming t1 t2 t3 t4 t5).waited = s.waited := rfl

@[simp] theorem State.setTiming_xp (s : State) (t1 t2 t3 t4 t5 : Nat) : (s.setTiming t1 t2 t3 t4 t5).xp = s.xp := rfl

@[simp] theorem State.setTiming_i2c_ready (s : State) (t1 t2 t3 t4 t5 : Nat) :
    (s.setTiming t1 t2 t3 t4 t5).i2c.ready = s.i2c.ready := rfl

@[simp] theorem State.setTiming_i2c_fsm (s : State) (t1 t2 t3 t4 t5 : Nat) :
    (s.setTiming t1 t2 t3 t4 t5).i2c.fsm = s.i2c.fsm := rfl

@[simp] theorem State.setTiming_i2c_clkdiv (s : State) (t1 t2 t3 t4 t5 : Nat) :
    (s.setTiming t1 t2 t3 t4 t5).i2c.clkdiv = s.i2c.clkdiv := rfl

@[simp] theorem State.setTiming_i2c_tStart1 (s : State) (t1 t2 t3 t4 t5 : Nat) :
    (s.setTiming t1 t2 t3 t4 t5).i2c.tStart1 = BitVec.ofNat 8 t1 := rfl

@[simp] theorem State.setTiming_i2c_tStart2 (s : State) (t1 t2 t3 t4 t5 : Nat) :
    (s.setTiming t1 t2 t3 t4 t5).i2c.tStart2 = BitVec.ofNat 8 t2 := rfl

@[simp] theorem State.setTiming_i2c_tStop1 (s : State) (t1 t2 t3 t4 t5 : Nat) :
    (s.setTiming t1 t2 t3 t4 t5).i2c.tStop1 = BitVec.ofNat 8 t3 := rfl

@[simp] theorem State.setTiming_i2c_tStop2 (s : State) (t1 t2 t3 t4 t5 : Nat) :
    (s.setTiming t1 t2 t3 t4 t5).i2c.tStop2 = BitVec.ofNat 8 t4 := rfl

@[simp] theorem State.setTiming_i2c_tStop3 (s : State) (t1 t2 t3 t4 t5 : Nat) :
    (s.setTiming t1 t2 t3 t4 t5).i2c.tStop3 = BitVec.ofNat 8 t5 := rfl

@[simp] theorem State.setTiming_spi (s : State) (t1 t2 t3 t4 t5 : Nat) :
    (s.setTiming t1 t2 t3 t4 t5).spi = s.spi := rfl

@[simp] theorem State.setTiming_dc (s : State) (t1 t2 t3 t4 t5 : Nat) : (s.setTiming t1 t2 t3 t4 t5).dc = s.dc := rfl

/-! ### setSpiReady -/

@[simp] theorem State.setSpiReady_params (s : State) (b : Bool) : (s.setSpiReady b).params = s.params := rfl

@[simp] theorem State.setSpiReady_port (s : State) (b : Bool) : (s.setSpiReady b).port = s.port := rfl

@[simp] theorem State.setSpiReady_encPort (s : State) (b : Bool) : (s.setSpiReady b).encPort = s.encPort := rfl

@[simp] theorem State.setSpiReady_resp (s : State) (b : Bool) : (s.setSpiReady b).resp = s.resp := rfl

@[simp] theorem State.setSpiReady_script (s : State) (b : Bool) : (s.setSpiReady b).script = s.script := rfl

@[simp] theorem State.setSpiReady_calls (s : State) (b : Bool) : (s.setSpiReady b).calls = s.calls := rfl

@[simp] theorem State.setSpiReady_waited (s : State) (b : Bool) : (s.setSpiReady b).waited = s.waited := rfl

@[simp] theorem State.setSpiReady_xp (s : State) (b : Bool) : (s.setSpiReady b).xp = s.xp := rfl

@[simp] theorem State.setSpiReady_i2c (s : State) (b : Bool) : (s.setSpiReady b).i2c = s.i2c := rfl

@[simp] theorem State.setSpiReady_spi_ready (s : State) (b : Bool) : (s.setSpiReady b).spi.ready = b := rfl

@[simp] theorem State.setSpiReady_spi_csPin (s : State) (b : Bool) : (s.setSpiReady b).spi.csPin = s.spi.csPin := rfl

@[simp] theorem State.setSpiReady_spi_mode (s : State) (b : Bool) : (s.setSpiReady b).spi.mode = s.spi.mode := rfl

@[simp] theorem State.setSpiReady_spi_order (s : State) (b : Bool) : (s.setSpiReady b).spi.order = s.spi.order := rfl

@[simp] theorem State.setSpiReady_spi_policy (s : State) (b : Bool) :
    (s.setSpiReady b).spi.policy = s.spi.policy := rfl

@[simp] theorem State.setSpiReady_spi_csLevel (s : State) (b : Bool) :
    (s.setSpiReady b).spi.csLevel = s.spi.csLevel := rfl

@[simp] theorem State.setSpiReady_spi_lowVal (s : State) (b : Bool) :
    (s.setSpiReady b).spi.lowVal = s.spi.lowVal := rfl

@[simp] theorem State.setSpiReady_spi_lowDir (s : State) (b : Bool) :
    (s.setSpiReady b).spi.lowDir = s.spi.lowDir := rfl

@[simp] theorem State.setSpiReady_dc (s : State) (b : Bool) : (s.setSpiReady b).dc = s.dc := rfl

/-! ### setSpiConfig -/

@[simp] theorem State.setSpiConfig_params (s : State) (m : Mode) (o : Order) (c : Byte) (p : CsPolicy) (v d : Byte) :
    (s.setSpiConfig m o c p v d).params = s.params := rfl

@[simp] theorem State.setSpiConfig_port (s : State) (m : Mode) (o : Order) (c : Byte) (p : CsPolicy) (v d : Byte) :
    (s.setSpiConfig m o c p v d).port = s.port := rfl

@[simp] theorem State.setSpiConfig_encPort (s : State) (m : Mode) (o : Order) (c : Byte) (p : CsPolicy) (v d : Byte) :
    (s.setSpiConfig m o c p v d).encPort = s.encPort := rfl

@[simp] theorem State.setSpiConfig_resp (s : State) (m : Mode) (o : Order) (c : Byte) (p : CsPolicy) (v d : Byte) :
    (s.setSpiConfig m o c p v d).resp = s.resp := rfl

@[simp] theorem State.setSpiConfig_script (s : State) (m : Mode) (o : Order) (c : Byte) (p : CsPolicy) (v d : Byte) :
    (s.setSpiConfig m o c p v d).script = s.script := rfl

@[simp] theorem State.setSpiConfig_calls (s : State) (m : Mode) (o : Order) (c : Byte) (p : CsPolicy) (v d : Byte) :
    (s.setSpiConfig m o c p v d).calls = s.calls := rfl

@[simp] theorem State.setSpiConfig_waited (s : State) (m : Mode) (o : Order) (c : Byte) (p : CsPolicy) (v d : Byte) :
    (s.setSpiConfig m o c p v d).waited = s.waited := rfl

@[simp] theorem State.setSpiConfig_xp (s : State) (m : Mode) (o : Order) (c : Byte) (p : CsPolicy) (v d : Byte) :
    (s.setSpiConfig m o c p v d).xp = s.xp := rfl

@[simp] theorem State.setSpiConfig_i2c (s : State) (m : Mode) (o : Order) (c : Byte) (p : CsPolicy) (v d : Byte) :
    (s.setSpiConfig m o c p v d).i2c = s.i2c := rfl

@[simp] theorem State.setSpiConfig_spi_ready (s : State) (m : Mode) (o : Order) (c : Byte) (p : CsPolicy) (v d : Byte) :
    (s.setSpiConfig m o c p v d).spi.ready = s.spi.ready := rfl

@[simp] theorem State.setSpiConfig_spi_csPin (s : State) (m : Mode) (o : Order) (c : Byte) (p : CsPolicy) (v d : Byte) :
    (s.setSpiConfig m o c p v d).spi.csPin = c := rfl

@[simp] theorem State.setSpiConfig_spi_mode (s : State) (m : Mode) (o : Order) (c : Byte) (p : CsPolicy) (v d : Byte) :
    (s.setSpiConfig m o c p v d).spi.mode = m := rfl

@[simp] theorem State.setSpiConfig_spi_order (s : State) (m : Mode) (o : Order) (c : Byte) (p : CsPolicy) (v d : Byte) :
    (s.setSpiConfig m o c p v d).spi.order = o := rfl

@[simp] theorem State.setSpiConfig_spi_policy (s : State) (m : Mode) (o : Order) (c : Byte) (p : CsPolicy) (v d : Byte) :
    (s.setSpiConfig m o c p v d).spi.policy = p := rfl

@[simp] theorem State.setSpiConfig_spi_csLevel (s : State) (m : Mode) (o : Order) (c : Byte) (p : CsPolicy) (v d : Byte) :
    (s.setSpiConfig m o c p v d).spi.csLevel = s.spi.csLevel := rfl

@[simp] theorem State.setSpiConfig_spi_lowVal (s : State) (m : Mode) (o : Order) (c : Byte) (p : CsPolicy) (v d : Byte) :
    (s.setSpiConfig m o c p v d).spi.lowVal = v := rfl

@[simp] theorem State.setSpiConfig_spi_lowDir (s : State) (m : Mode) (o : Order) (c : Byte) (p : CsPolicy) (v d : Byte) :
    (s.setSpiConfig m o c p v d).spi.lowDir = d := rfl

@[simp] theorem State.setSpiConfig_dc (s : State) (m : Mode) (o : Order) (c : Byte) (p : CsPolicy) (v d : Byte) :
    (s.setSpiConfig m o c p v d).dc = s.dc := rfl

/-! ### setCsLevel -/

@[simp] theorem State.setCsLevel_params (s : State) (l : Bit) : (s.setCsLevel l).params = s.params := rfl

@[simp] theorem State.setCsLevel_port (s : State) (l : Bit) : (s.setCsLevel l).port = s.port := rfl

@[simp] theorem State.setCsLevel_encPort (s : State) (l : Bit) : (s.setCsLevel l).encPort = s.encPort := rfl

@[simp] theorem State.setCsLevel_resp (s : State) (l : Bit) : (s.setCsLevel l).resp = s.resp := rfl

@[simp] theorem State.setCsLevel_script (s : State) (l : Bit) : (s.setCsLevel l).script = s.script := rfl

@[simp] theorem State.setCsLevel_calls (s : State) (l : Bit) : (s.setCsLevel l).calls = s.calls := rfl

@[simp] theorem State.setCsLevel_waited (s : State) (l : Bit) : (s.setCsLevel l).waited = s.waited := rfl

@[simp] theorem State.setCsLevel_xp (s : State) (l : Bit) : (s.setCsLevel l).xp = s.xp := rfl

@[simp] theorem State.setCsLevel_i2c (s : State) (l : Bit) : (s.setCsLevel l).i2c = s.i2c := rfl

@[simp] theorem State.setCsLevel_spi_ready (s : State) (l : Bit) : (s.setCsLevel l).spi.ready = s.spi.ready := rfl

@[simp] theorem State.setCsLevel_spi_csPin (s : State) (l : Bit) : (s.setCsLevel l).spi.csPin = s.spi.csPin := rfl

@[simp] theorem State.setCsLevel_spi_mode (s : State) (l : Bit) : (s.setCsLevel l).spi.mode = s.spi.mode := rfl

@[simp] theorem State.setCsLevel_spi_order (s : State) (l : Bit) : (s.setCsLevel l).spi.order = s.spi.order := rfl

@[simp] theorem State.setCsLevel_spi_policy (s : State) (l : Bit) : (s.setCsLevel l).spi.policy = s.spi.policy := rfl

@[simp] theorem State.setCsLevel_spi_csLevel (s : State) (l : Bit) : (s.setCsLevel l).spi.csLevel = l := rfl

@[simp] theorem State.setCsLevel_spi_lowVal (s : State) (l : Bit) : (s.setCsLevel l).spi.lowVal = s.spi.lowVal := rfl

@[simp] theorem State.setCsLevel_spi_lowDir (s : State) (l : Bit) : (s.setCsLevel l).spi.lowDir = s.spi.lowDir := rfl

@[simp] theorem State.setCsLevel_dc (s : State) (l : Bit) : (s.setCsLevel l).dc = s.dc := rfl

/-! ### setDcPresent -/

@[simp] theorem State.setDcPresent_params (s : State) (b : Bool) : (s.setDcPresent b).params = s.params := rfl

@[simp] theorem State.setDcPresent_port (s : State) (b : Bool) : (s.setDcPresent b).port = s.port := rfl

@[simp] theorem State.setDcPresent_encPort (s : State) (b : Bool) : (s.setDcPresent b).encPort = s.encPort := rfl

@[simp] theorem State.setDcPresent_resp (s : State) (b : Bool) : (s.setDcPresent b).resp = s.resp := rfl

@[simp] theorem State.setDcPresent_script (s : State) (b : Bool) : (s.setDcPresent b).script = s.script := rfl

@[simp] theorem State.setDcPresent_calls (s : State) (b : Bool) : (s.setDcPresent b).calls = s.calls := rfl

@[simp] theorem State.setDcPresent_waited (s : State) (b : Bool) : (s.setDcPresent b).waited = s.waited := rfl

@[simp] theorem State.setDcPresent_xp (s : State) (b : Bool) : (s.setDcPresent b).xp = s.xp := rfl

@[simp] theorem State.setDcPresent_i2c (s : State) (b : Bool) : (s.setDcPresent b).i2c = s.i2c := rfl

@[simp] theorem State.setDcPresent_spi (s : State) (b : Bool) : (s.setDcPresent b).spi = s.spi := rfl

@[simp] theorem State.setDcPresent_dc_present (s : State) (b : Bool) : (s.setDcPresent b).dc.present = b := rfl

@[simp] theorem State.setDcPresent_dc_dcPin (s : State) (b : Bool) : (s.setDcPresent b).dc.dcPin = s.dc.dcPin := rfl

@[simp] theorem State.setDcPresent_dc_rstPin (s : State) (b : Bool) :
    (s.setDcPresent b).dc.rstPin = s.dc.rstPin := rfl

@[simp] theorem State.setDcPresent_dc_dcLevel (s : State) (b : Bool) :
    (s.setDcPresent b).dc.dcLevel = s.dc.dcLevel := rfl

@[simp] theorem State.setDcPresent_dc_highVal (s : State) (b : Bool) :
    (s.setDcPresent b).dc.highVal = s.dc.highVal := rfl

@[simp] theorem State.setDcPresent_dc_highDir (s : State) (b : Bool) :
    (s.setDcPresent b).dc.highDir = s.dc.highDir := rfl

/-! ### setDcConfig -/

@[simp] theorem State.setDcConfig_params (s : State) (c r v d : Byte) :
    (s.setDcConfig c r v d).params = s.params := rfl

@[simp] theorem State.setDcConfig_port (s : State) (c r v d : Byte) : (s.setDcConfig c r v d).port = s.port := rfl

@[simp] theorem State.setDcConfig_encPort (s : State) (c r v d : Byte) : (s.setDcConfig c r v d).encPort = s.encPort := rfl

@[simp] theorem State.setDcConfig_resp (s : State) (c r v d : Byte) : (s.setDcConfig c r v d).resp = s.resp := rfl

@[simp] theorem State.setDcConfig_script (s : State) (c r v d : Byte) :
    (s.setDcConfig c r v d).script = s.script := rfl

@[simp] theorem State.setDcConfig_calls (s : State) (c r v d : Byte) : (s.setDcConfig c r v d).calls = s.calls := rfl

@[simp] theorem State.setDcConfig_waited (s : State) (c r v d : Byte) :
    (s.setDcConfig c r v d).waited = s.waited := rfl

@[simp] theorem State.setDcConfig_xp (s : State) (c r v d : Byte) : (s.setDcConfig c r v d).xp = s.xp := rfl

@[simp] theorem State.setDcConfig_i2c (s : State) (c r v d : Byte) : (s.setDcConfig c r v d).i2c = s.i2c := rfl

@[simp] theorem State.setDcConfig_spi (s : State) (c r v d : Byte) : (s.setDcConfig c r v d).spi = s.spi := rfl

@[simp] theorem State.setDcConfig_dc_present (s : State) (c r v d : Byte) :
    (s.setDcConfig c r v d).dc.present = s.dc.present := rfl

@[simp] theorem State.setDcConfig_dc_dcPin (s : State) (c r v d : Byte) : (s.setDcConfig c r v d).dc.dcPin = c := rfl

@[simp] theorem State.setDcConfig_dc_rstPin (s : State) (c r v d : Byte) :
    (s.setDcConfig c r v d).dc.rstPin = r := rfl

@[simp] theorem State.setDcConfig_dc_dcLevel (s : State) (c r v d : Byte) :
    (s.setDcConfig c r v d).dc.dcLevel = s.dc.dcLevel := rfl

@[simp] theorem State.setDcConfig_dc_highVal (s : State) (c r v d : Byte) :
    (s.setDcConfig c r v d).dc.highVal = v := rfl

@[simp] theorem State.setDcConfig_dc_highDir (s : State) (c r v d : Byte) :
    (s.setDcConfig c r v d).dc.highDir = d := rfl

/-! ### setDcLevel -/

@[simp] theorem State.setDcLevel_params (s : State) (l : Bit) : (s.setDcLevel l).params = s.params := rfl

@[simp] theorem State.setDcLevel_port (s : State) (l : Bit) : (s.setDcLevel l).port = s.port := rfl

@[simp] theorem State.setDcLevel_encPort (s : State) (l : Bit) : (s.setDcLevel l).encPort = s.encPort := rfl

@[simp] theorem State.setDcLevel_resp (s : State) (l : Bit) : (s.setDcLevel l).resp = s.resp := rfl

@[simp] theorem State.setDcLevel_script (s : State) (l : Bit) : (s.setDcLevel l).script = s.script := rfl

@[simp] theorem State.setDcLevel_calls (s : State) (l : Bit) : (s.setDcLevel l).calls = s.calls := rfl

@[simp] theorem State.setDcLevel_waited (s : State) (l : Bit) : (s.setDcLevel l).waited = s.waited := rfl

@[simp] theorem State.setDcLevel_xp (s : State) (l : Bit) : (s.setDcLevel l).xp = s.xp := rfl

@[simp] theorem State.setDcLevel_i2c (s : State) (l : Bit) : (s.setDcLevel l).i2c = s.i2c := rfl

@[simp] theorem State.setDcLevel_spi (s : State) (l : Bit) : (s.setDcLevel l).spi = s.spi := rfl

@[simp] theorem State.setDcLevel_dc_present (s : State) (l : Bit) : (s.setDcLevel l).dc.present = s.dc.present := rfl

@[simp] theorem State.setDcLevel_dc_dcPin (s : State) (l : Bit) : (s.setDcLevel l).dc.dcPin = s.dc.dcPin := rfl

@[simp] theorem State.setDcLevel_dc_rstPin (s : State) (l : Bit) : (s.setDcLevel l).dc.rstPin = s.dc.rstPin := rfl

@[simp] theorem State.setDcLevel_dc_dcLevel (s : State) (l : Bit) : (s.setDcLevel l).dc.dcLevel = l := rfl

@[simp] theorem State.setDcLevel_dc_highVal (s : State) (l : Bit) : (s.setDcLevel l).dc.highVal = s.dc.highVal := rfl

@[simp] theorem State.setDcLevel_dc_highDir (s : State) (l : Bit) : (s.setDcLevel l).dc.highDir = s.dc.highDir := rfl

/-! ### respond -/

@[simp] theorem State.respond_params (s : State) (r : Response) : (s.respond r).params = s.params := rfl

@[simp] theorem State.respond_port (s : State) (r : Response) : (s.respond r).port = s.port := rfl

@[simp] theorem State.respond_encPort (s : State) (r : Response) : (s.respond r).encPort = s.encPort := rfl

@[simp] theorem State.respond_resp (s : State) (r : Response) : (s.respond r).resp = r := rfl

@[simp] theorem State.respond_script (s : State) (r : Response) : (s.respond r).script = s.script := rfl

@[simp] theorem State.respond_calls (s : State) (r : Response) : (s.respond r).calls = s.calls := rfl

@[simp] theorem State.respond_waited (s : State) (r : Response) : (s.respond r).waited = s.waited := rfl

@[simp] theorem State.respond_xp (s : State) (r : Response) : (s.respond r).xp = s.xp := rfl

@[simp] theorem State.respond_i2c (s : State) (r : Response) : (s.respond r).i2c = s.i2c := rfl

@[simp] theorem State.respond_spi (s : State) (r : Response) : (s.respond r).spi = s.spi := rfl

@[simp] theorem State.respond_dc (s : State) (r : Response) : (s.respond r).dc = s.dc := rfl

/-! ### delay -/

@[simp] theorem State.delay_params (s : State) (ms : Millis) : (s.delay ms).params = s.params := rfl

@[simp] theorem State.delay_port (s : State) (ms : Millis) : (s.delay ms).port = s.port := rfl

@[simp] theorem State.delay_encPort (s : State) (ms : Millis) : (s.delay ms).encPort = s.encPort := rfl

@[simp] theorem State.delay_resp (s : State) (ms : Millis) : (s.delay ms).resp = s.resp := rfl

@[simp] theorem State.delay_script (s : State) (ms : Millis) : (s.delay ms).script = s.script := rfl

@[simp] theorem State.delay_calls (s : State) (ms : Millis) : (s.delay ms).calls = s.calls := rfl

@[simp] theorem State.delay_waited (s : State) (ms : Millis) : (s.delay ms).waited = s.waited ++ [ms] := rfl

@[simp] theorem State.delay_xp (s : State) (ms : Millis) : (s.delay ms).xp = s.xp := rfl

@[simp] theorem State.delay_i2c (s : State) (ms : Millis) : (s.delay ms).i2c = s.i2c := rfl

@[simp] theorem State.delay_spi (s : State) (ms : Millis) : (s.delay ms).spi = s.spi := rfl

@[simp] theorem State.delay_dc (s : State) (ms : Millis) : (s.delay ms).dc = s.dc := rfl

/-! ### blockReset -/

@[simp] theorem State.blockReset_params (s : State) : s.blockReset.params = s.params := rfl

@[simp] theorem State.blockReset_port (s : State) : s.blockReset.port = s.port := rfl

@[simp] theorem State.blockReset_encPort (s : State) : s.blockReset.encPort = s.encPort := rfl

@[simp] theorem State.blockReset_resp (s : State) : s.blockReset.resp = s.resp := rfl

@[simp] theorem State.blockReset_script (s : State) : s.blockReset.script = s.script := rfl

@[simp] theorem State.blockReset_calls (s : State) : s.blockReset.calls = s.calls := rfl

@[simp] theorem State.blockReset_waited (s : State) : s.blockReset.waited = s.waited := rfl

@[simp] theorem State.blockReset_xp_cb (s : State) : s.blockReset.xp.cb = s.xp.cb := rfl

@[simp] theorem State.blockReset_xp_rxq (s : State) : s.blockReset.xp.rxq = s.xp.rxq := rfl

@[simp] theorem State.blockReset_xp_wire (s : State) : s.blockReset.xp.wire = s.xp.wire := rfl

@[simp] theorem State.blockReset_xp_clkdiv (s : State) : s.blockReset.xp.clkdiv = Xp.reset.clkdiv := rfl

@[simp] theorem State.blockReset_xp_loopback (s : State) : s.blockReset.xp.loopback = Xp.reset.loopback := rfl

@[simp] theorem State.blockReset_i2c (s : State) : s.blockReset.i2c = I2c.reset := rfl

@[simp] theorem State.blockReset_spi (s : State) : s.blockReset.spi = Spi.reset := rfl

@[simp] theorem State.blockReset_dc (s : State) : s.blockReset.dc = Dc.reset := rfl

/-! ### answered -/

@[simp] theorem State.answered_params (s : State) : s.answered.params = s.params := rfl

@[simp] theorem State.answered_port (s : State) : s.answered.port = s.port := rfl

@[simp] theorem State.answered_encPort (s : State) : s.answered.encPort = s.encPort := rfl

@[simp] theorem State.answered_resp (s : State) : s.answered.resp = s.resp := rfl

@[simp] theorem State.answered_script (s : State) : s.answered.script = s.script.tail := rfl

@[simp] theorem State.answered_calls (s : State) : s.answered.calls = s.calls + 1 := rfl

@[simp] theorem State.answered_waited (s : State) : s.answered.waited = s.waited := rfl

@[simp] theorem State.answered_xp (s : State) : s.answered.xp = s.xp := rfl

@[simp] theorem State.answered_i2c (s : State) : s.answered.i2c = s.i2c := rfl

@[simp] theorem State.answered_spi (s : State) : s.answered.spi = s.spi := rfl

@[simp] theorem State.answered_dc (s : State) : s.answered.dc = s.dc := rfl

/-! ### flushed -/

@[simp] theorem State.flushed_params (s : State) : s.flushed.params = s.params := rfl

@[simp] theorem State.flushed_port (s : State) : s.flushed.port = s.port := rfl

@[simp] theorem State.flushed_encPort (s : State) : s.flushed.encPort = s.encPort := rfl

@[simp] theorem State.flushed_resp (s : State) : s.flushed.resp = s.resp := rfl

@[simp] theorem State.flushed_script (s : State) : s.flushed.script = s.script.tail := rfl

@[simp] theorem State.flushed_calls (s : State) : s.flushed.calls = s.calls + 1 := rfl

@[simp] theorem State.flushed_waited (s : State) : s.flushed.waited = s.waited := rfl

@[simp] theorem State.flushed_xp_cb (s : State) : s.flushed.xp.cb = [] := rfl

@[simp] theorem State.flushed_xp_rxq (s : State) : s.flushed.xp.rxq = s.xp.rxq ++ s.arrivals := rfl

@[simp] theorem State.flushed_xp_wire (s : State) : s.flushed.xp.wire = s.xp.wire ++ s.xp.cb := rfl

@[simp] theorem State.flushed_xp_clkdiv (s : State) : s.flushed.xp.clkdiv = s.xp.clkdiv := rfl

@[simp] theorem State.flushed_xp_loopback (s : State) : s.flushed.xp.loopback = s.xp.loopback := rfl

@[simp] theorem State.flushed_i2c (s : State) : s.flushed.i2c = s.i2c := rfl

@[simp] theorem State.flushed_spi (s : State) : s.flushed.spi = s.spi := rfl

@[simp] theorem State.flushed_dc (s : State) : s.flushed.dc = s.dc := rfl

/-! ### flushLost -/

@[simp] theorem State.flushLost_params (s : State) : s.flushLost.params = s.params := rfl

@[simp] theorem State.flushLost_port (s : State) : s.flushLost.port = s.port := rfl

@[simp] theorem State.flushLost_encPort (s : State) : s.flushLost.encPort = s.encPort := rfl

@[simp] theorem State.flushLost_resp (s : State) : s.flushLost.resp = s.resp := rfl

@[simp] theorem State.flushLost_script (s : State) : s.flushLost.script = s.script.tail := rfl

@[simp] theorem State.flushLost_calls (s : State) : s.flushLost.calls = s.calls + 1 := rfl

@[simp] theorem State.flushLost_waited (s : State) : s.flushLost.waited = s.waited := rfl

@[simp] theorem State.flushLost_xp_cb (s : State) : s.flushLost.xp.cb = s.answer.bytes := rfl

@[simp] theorem State.flushLost_xp_rxq (s : State) : s.flushLost.xp.rxq = s.xp.rxq := rfl

@[simp] theorem State.flushLost_xp_wire (s : State) : s.flushLost.xp.wire = s.xp.wire := rfl

@[simp] theorem State.flushLost_xp_clkdiv (s : State) : s.flushLost.xp.clkdiv = s.xp.clkdiv := rfl

@[simp] theorem State.flushLost_xp_loopback (s : State) : s.flushLost.xp.loopback = s.xp.loopback := rfl

@[simp] theorem State.flushLost_i2c (s : State) : s.flushLost.i2c = s.i2c := rfl

@[simp] theorem State.flushLost_spi (s : State) : s.flushLost.spi = s.spi := rfl

@[simp] theorem State.flushLost_dc (s : State) : s.flushLost.dc = s.dc := rfl

/-! ### taken -/

@[simp] theorem State.taken_params (s : State) (n : Nat) : (s.taken n).params = s.params := rfl

@[simp] theorem State.taken_port (s : State) (n : Nat) : (s.taken n).port = s.port := rfl

@[simp] theorem State.taken_encPort (s : State) (n : Nat) : (s.taken n).encPort = s.encPort := rfl

@[simp] theorem State.taken_resp (s : State) (n : Nat) : (s.taken n).resp = s.resp := rfl

@[simp] theorem State.taken_script (s : State) (n : Nat) : (s.taken n).script = s.script.tail := rfl

@[simp] theorem State.taken_calls (s : State) (n : Nat) : (s.taken n).calls = s.calls + 1 := rfl

@[simp] theorem State.taken_waited (s : State) (n : Nat) : (s.taken n).waited = s.waited := rfl

@[simp] theorem State.taken_xp_cb (s : State) (n : Nat) : (s.taken n).xp.cb = s.xp.cb := rfl

@[simp] theorem State.taken_xp_rxq (s : State) (n : Nat) : (s.taken n).xp.rxq = s.xp.rxq.drop n := rfl

@[simp] theorem State.taken_xp_wire (s : State) (n : Nat) : (s.taken n).xp.wire = s.xp.wire := rfl

@[simp] theorem State.taken_xp_clkdiv (s : State) (n : Nat) : (s.taken n).xp.clkdiv = s.xp.clkdiv := rfl

@[simp] theorem State.taken_xp_loopback (s : State) (n : Nat) : (s.taken n).xp.loopback = s.xp.loopback := rfl

@[simp] theorem State.taken_i2c (s : State) (n : Nat) : (s.taken n).i2c = s.i2c := rfl

@[simp] theorem State.taken_spi (s : State) (n : Nat) : (s.taken n).spi = s.spi := rfl

@[simp] theorem State.taken_dc (s : State) (n : Nat) : (s.taken n).dc = s.dc := rfl

/-! ### readLost -/

@[simp] theorem State.readLost_params (s : State) : s.readLost.params = s.params := rfl

@[simp] theorem State.readLost_port (s : State) : s.readLost.port = s.port := rfl

@[simp] theorem State.readLost_encPort (s : State) : s.readLost.encPort = s.encPort := rfl

@[simp] theorem State.readLost_resp (s : State) : s.readLost.resp = s.resp := rfl

@[simp] theorem State.readLost_script (s : State) : s.readLost.script = s.script.tail := rfl

@[simp] theorem State.readLost_calls (s : State) : s.readLost.calls = s.calls + 1 := rfl

@[simp] theorem State.readLost_waited (s : State) : s.readLost.waited = s.waited := rfl

@[simp] theorem State.readLost_xp_cb (s : State) : s.readLost.xp.cb = s.xp.cb := rfl

@[simp] theorem State.readLost_xp_rxq (s : State) : s.readLost.xp.rxq = s.answer.bytes := rfl

@[simp] theorem State.readLost_xp_wire (s : State) : s.readLost.xp.wire = s.xp.wire := rfl

@[simp] theorem State.readLost_xp_clkdiv (s : State) : s.readLost.xp.clkdiv = s.xp.clkdiv := rfl

@[simp] theorem State.readLost_xp_loopback (s : State) : s.readLost.xp.loopback = s.xp.loopback := rfl

@[simp] theorem State.readLost_i2c (s : State) : s.readLost.i2c = s.i2c := rfl

@[simp] theorem State.readLost_spi (s : State) : s.readLost.spi = s.spi := rfl

@[simp] theorem State.readLost_dc (s : State) : s.readLost.dc = s.dc := rfl

/-! ### accept -/

@[simp] theorem State.accept_params (s : State) (rest : Bytes) : (s.accept rest).params = s.params := rfl

@[simp] theorem State.accept_port (s : State) (rest : Bytes) : (s.accept rest).port = rest := rfl

@[simp] theorem State.accept_encPort (s : State) (rest : Bytes) : (s.accept rest).encPort = s.encPort := rfl

@[simp] theorem State.accept_resp (s : State) (rest : Bytes) : (s.accept rest).resp = s.resp := rfl

@[simp] theorem State.accept_script (s : State) (rest : Bytes) : (s.accept rest).script = s.script := rfl

@[simp] theorem State.accept_calls (s : State) (rest : Bytes) : (s.accept rest).calls = s.calls := rfl

@[simp] theorem State.accept_waited (s : State) (rest : Bytes) : (s.accept rest).waited = s.waited := rfl

@[simp] theorem State.accept_xp (s : State) (rest : Bytes) : (s.accept rest).xp = s.xp := rfl

@[simp] theorem State.accept_i2c (s : State) (rest : Bytes) : (s.accept rest).i2c = s.i2c := rfl

@[simp] theorem State.accept_spi (s : State) (rest : Bytes) : (s.accept rest).spi = s.spi := rfl

@[simp] theorem State.accept_dc (s : State) (rest : Bytes) : (s.accept rest).dc = s.dc := rfl

/-! ### takeCall -/

@[simp] theorem State.takeCall_params (s : State) (rest : Bytes) : (s.takeCall rest).params = s.params := rfl

@[simp] theorem State.takeCall_port (s : State) (rest : Bytes) : (s.takeCall rest).port = s.port := rfl

@[simp] theorem State.takeCall_encPort (s : State) (rest : Bytes) : (s.takeCall rest).encPort = rest := rfl

@[simp] theorem State.takeCall_resp (s : State) (rest : Bytes) : (s.takeCall rest).resp = s.resp := rfl

@[simp] theorem State.takeCall_script (s : State) (rest : Bytes) : (s.takeCall rest).script = s.script := rfl

@[simp] theorem State.takeCall_calls (s : State) (rest : Bytes) : (s.takeCall rest).calls = s.calls := rfl

@[simp] theorem State.takeCall_waited (s : State) (rest : Bytes) : (s.takeCall rest).waited = s.waited := rfl

@[simp] theorem State.takeCall_xp (s : State) (rest : Bytes) : (s.takeCall rest).xp = s.xp := rfl

@[simp] theorem State.takeCall_i2c (s : State) (rest : Bytes) : (s.takeCall rest).i2c = s.i2c := rfl

@[simp] theorem State.takeCall_spi (s : State) (rest : Bytes) : (s.takeCall rest).spi = s.spi := rfl

@[simp] theorem State.takeCall_dc (s : State) (rest : Bytes) : (s.takeCall rest).dc = s.dc := rfl

/-! ### withFetchWord -/

@[simp] theorem State.withFetchWord_params (s : State) (nbits w : Nat) :
    (s.withFetchWord nbits w).params = s.params := rfl

@[simp] theorem State.withFetchWord_port (s : State) (nbits w : Nat) : (s.withFetchWord nbits w).port =
    if isCommandWord (tableBytes nbits w) then s.port else tableBytes nbits w := rfl

@[simp] theorem State.withFetchWord_encPort (s : State) (nbits w : Nat) : (s.withFetchWord nbits w).encPort =
    if isCommandWord (tableBytes nbits w) then tableBytes nbits w else [] := rfl

@[simp] theorem State.withFetchWord_resp (s : State) (nbits w : Nat) : (s.withFetchWord nbits w).resp = s.resp := rfl

@[simp] theorem State.withFetchWord_script (s : State) (nbits w : Nat) :
    (s.withFetchWord nbits w).script = s.script := rfl

@[simp] theorem State.withFetchWord_calls (s : State) (nbits w : Nat) :
    (s.withFetchWord nbits w).calls = s.calls := rfl

@[simp] theorem State.withFetchWord_waited (s : State) (nbits w : Nat) :
    (s.withFetchWord nbits w).waited = s.waited := rfl

@[simp] theorem State.withFetchWord_xp (s : State) (nbits w : Nat) : (s.withFetchWord nbits w).xp = s.xp := rfl

@[simp] theorem State.withFetchWord_i2c (s : State) (nbits w : Nat) : (s.withFetchWord nbits w).i2c = s.i2c := rfl

@[simp] theorem State.withFetchWord_spi (s : State) (nbits w : Nat) : (s.withFetchWord nbits w).spi = s.spi := rfl

@[simp] theorem State.withFetchWord_dc (s : State) (nbits w : Nat) : (s.withFetchWord nbits w).dc = s.dc := rfl

end Sys2Proof.Machine
end

