-- ==== Sys2Proof/Laws/Ops.lean ====
section
/-! SUPPORT. What the shared operations can do, said once: how a request's pieces run, what a flush and a read can
answer, and how a property of states that every piece keeps is kept by the whole request. -/

namespace Sys2Proof.Machine

/-! ## Running pieces -/

@[simp] theorem ret_apply {α : Type} (v : α) (s : State) : ret v s = .done v s := rfl

@[simp] theorem raise_apply {α : Type} (e : Error) (s : State) : (raise e : Req α) s = .raised e s := rfl

@[simp] theorem update_apply (f : State → State) (s : State) : update f s = .done () (f s) := rfl

@[simp] theorem enqueue_apply (bs : Bytes) (s : State) : enqueue bs s = .done () (s.enqueue bs) := rfl

@[simp] theorem delay_apply (ms : Millis) (s : State) : delay ms s = .done () (s.delay ms) := rfl

@[simp] theorem withState_apply {α : Type} (k : State → Req α) (s : State) : withState k s = k s s := rfl

@[simp] theorem andThen_ret {α β : Type} (v : α) (k : α → Req β) : andThen (ret v) k = k v := rfl

@[simp] theorem andThen_update {β : Type} (f : State → State) (k : Unit → Req β) (s : State) :
    andThen (update f) k s = k () (f s) := rfl

@[simp] theorem andThen_raise {α β : Type} (e : Error) (k : α → Req β) : andThen (raise e) k = raise e := rfl

@[simp] theorem andThen_withState {α β : Type} (m : State → Req α) (k : α → Req β) (s : State) :
    andThen (withState m) k s = andThen (m s) k s := rfl

theorem andThen_of_done {α β : Type} {m : Req α} {s s' : State} {v : α} (h : m s = .done v s') (k : α → Req β) :
    andThen m k s = k v s' := by simp [andThen, h]

theorem andThen_of_raised {α β : Type} {m : Req α} {s s' : State} {e : Error} (h : m s = .raised e s')
    (k : α → Req β) : andThen m k s = .raised e s' := by simp [andThen, h]

@[simp] theorem andThen_assoc {α β γ : Type} (m : Req α) (k : α → Req β) (l : β → Req γ) :
    andThen (andThen m k) l = andThen m fun v => andThen (k v) l := by
  funext s
  simp only [andThen]
  cases m s <;> rfl

theorem onFailure_of_done {α : Type} {m : Req α} {s s' : State} {v : α} (h : m s = .done v s') (f : State → State) :
    onFailure m f s = .done v s' := by simp [onFailure, h]

theorem onFailure_of_raised {α : Type} {m : Req α} {s s' : State} {e : Error} (h : m s = .raised e s')
    (f : State → State) : onFailure m f s = .raised e (f s') := by simp [onFailure, h]

@[simp] theorem forEach_nil {α : Type} (k : α → Req Unit) : forEach [] k = ret () := rfl

@[simp] theorem forEach_cons {α : Type} (x : α) (xs : List α) (k : α → Req Unit) :
    forEach (x :: xs) k = andThen (k x) fun _ => forEach xs k := rfl

@[simp] theorem respondWith_done (v : Result) (s : State) : respondWith (.done v s) = s.respond (.ok v) := rfl

@[simp] theorem respondWith_raised (e : Error) (s : State) : respondWith (.raised e s) = s.respond (.error e) := rfl

theorem complete_eq (m : Req Result) (s : State) : complete m s = .next (respondWith (m s)) := rfl

/-! ## The transport calls -/

@[simp] theorem answer_of_script {s : State} {a : Answer} {rest : List Answer} (h : s.script = a :: rest) :
    s.answer = a := by simp [State.answer, h]

theorem executeBuffer_of_ok {s : State} (h : s.answer.ok = true) : executeBuffer s = .done () s.flushed := by
  simp [executeBuffer, h]

theorem executeBuffer_of_lost {s : State} (h : s.answer.ok = false) :
    executeBuffer s = .raised .transportFailure s.flushLost := by simp [executeBuffer, h]

/-- A flush delivers everything or loses the buffer, and nothing else (R63). -/
theorem executeBuffer_cases (s : State) :
    (s.answer.ok = true ∧ executeBuffer s = .done () s.flushed) ∨
    (s.answer.ok = false ∧ executeBuffer s = .raised .transportFailure s.flushLost) := by
  cases h : s.answer.ok
  · exact .inr ⟨rfl, executeBuffer_of_lost h⟩
  · exact .inl ⟨rfl, executeBuffer_of_ok h⟩

@[simp] theorem read_zero (s : State) : read 0 s = .done [] s := rfl

theorem read_of_ok {n : Nat} {s : State} (hn : n ≠ 0) (h : s.readOk n = true) :
    read n s = .done (s.xp.rxq.take n) (s.taken n) := by simp [read, hn, h]

theorem read_of_lost {n : Nat} {s : State} (hn : n ≠ 0) (h : s.readOk n = false) :
    read n s = .raised .transportFailure s.readLost := by simp [read, hn, h]

/-- A read takes exactly `n` bytes from the front of `RXQ`, or fails (R64). -/
theorem read_cases (n : Nat) (s : State) :
    (n = 0 ∧ read n s = .done [] s) ∨
    (n ≠ 0 ∧ s.readOk n = true ∧ read n s = .done (s.xp.rxq.take n) (s.taken n)) ∨
    (n ≠ 0 ∧ s.readOk n = false ∧ read n s = .raised .transportFailure s.readLost) := by
  by_cases hn : n = 0
  · subst hn; exact .inl ⟨rfl, rfl⟩
  · cases h : s.readOk n
    · exact .inr (.inr ⟨hn, rfl, read_of_lost hn h⟩)
    · exact .inr (.inl ⟨hn, rfl, read_of_ok hn h⟩)

/-! ## Refusal conditions -/

/-- An I2C request is carried out exactly when the unit is ready and the state allowed (R207). -/
theorem i2cRequest_next {allowed : Fsm → Bool} {m : Req Result} {s t : State}
    (h : i2cRequest allowed m s = .next t) :
    s.i2c.ready = true ∧ allowed s.i2c.fsm = true ∧ t = respondWith (m s) := by
  unfold i2cRequest complete at h
  split at h
  · split at h
    · cases h; exact ⟨‹_›, ‹_›, rfl⟩
    · cases h
  · cases h

theorem i2cRequest_allowed {allowed : Fsm → Bool} {m : Req Result} {s : State} (hr : s.i2c.ready = true)
    (ha : allowed s.i2c.fsm = true) : i2cRequest allowed m s = .next (respondWith (m s)) := by
  simp [i2cRequest, complete, hr, ha]

theorem spiRequest_next {m : Req Result} {s t : State} (h : spiRequest m s = .next t) :
    s.spi.ready = true ∧ t = respondWith (m s) := by
  unfold spiRequest complete at h
  split at h
  · cases h; exact ⟨‹_›, rfl⟩
  · cases h

theorem spiRequest_ready {m : Req Result} {s : State} (hr : s.spi.ready = true) :
    spiRequest m s = .next (respondWith (m s)) := by simp [spiRequest, complete, hr]

theorem dcRequest_next {m : Req Result} {s t : State} (h : dcRequest m s = .next t) :
    s.spi.ready = true ∧ s.dc.present = true ∧ t = respondWith (m s) := by
  unfold dcRequest complete at h
  split at h
  · split at h
    · cases h; exact ⟨‹_›, ‹_›, rfl⟩
    · cases h
  · cases h

theorem dcRequest_ready {m : Req Result} {s : State} (hr : s.spi.ready = true) (hp : s.dc.present = true) :
    dcRequest m s = .next (respondWith (m s)) := by simp [dcRequest, complete, hr, hp]

/-! ## What is taken next -/

/-- The block takes a waiting function call, else a waiting request, else nothing. -/
theorem takeNext_cases (s : State) :
    (s.encPort = [] ∧ s.port = [] ∧ takeNext s = .nothing) ∨
    (s.encPort = [] ∧ s.port ≠ [] ∧ takeNext s = takeRequest s) ∨
    (s.encPort ≠ [] ∧ takeNext s = takeFunctionCall s) := by
  unfold takeNext
  cases s.encPort <;> cases s.port <;> simp

theorem takeRequest_of_ok {s : State} {i : Instr} {rest : Bytes} (h : decodeRequest s.port = .ok (i, rest)) :
    takeRequest s = .instr i (s.accept rest) := by simp [takeRequest, h]

theorem takeRequest_of_error {s : State} {e : DecodeError} (h : decodeRequest s.port = .error e) :
    takeRequest s = .unreadable e := by simp [takeRequest, h]

theorem takeFunctionCall_of_ok {s : State} {i : Instr} {rest : Bytes} (h : decodeCommand s.encPort = .ok (i, rest)) :
    takeFunctionCall s = .instr i (s.takeCall rest) := by simp [takeFunctionCall, h]

theorem takeFunctionCall_of_error {s : State} {e : DecodeError} (h : decodeCommand s.encPort = .error e) :
    takeFunctionCall s = .unreadable e := by simp [takeFunctionCall, h]

/-! ## Properties every piece keeps -/

/-- The state a piece ends in, with a value or with an error. -/
def Res.state {α : Type} (r : Res α) : State :=
  match r with
  | .done _ s => s
  | .raised _ s => s

/-- Whatever state of `P` a piece starts in, it ends in one, with a value or with an error. -/
def Keeps {α : Type} (P : State → Prop) (m : Req α) : Prop := ∀ s, P s → P (m s).state

theorem Keeps.ret {α : Type} {P : State → Prop} (v : α) : Keeps P (Machine.ret v) := fun _ h => h

theorem Keeps.raise {α : Type} {P : State → Prop} (e : Error) : Keeps P (Machine.raise e : Req α) := fun _ h => h

theorem Keeps.update {P : State → Prop} {f : State → State} (h : ∀ s, P s → P (f s)) : Keeps P (Machine.update f) := h

theorem Keeps.andThen {α β : Type} {P : State → Prop} {m : Req α} {k : α → Req β} (hm : Keeps P m)
    (hk : ∀ v, Keeps P (k v)) : Keeps P (Machine.andThen m k) := by
  intro s hs
  have h := hm s hs
  unfold Machine.andThen
  cases hr : m s with
  | done v s' => rw [hr] at h; exact hk v s' h
  | raised e s' => rw [hr] at h; exact h

theorem Keeps.withState {α : Type} {P : State → Prop} {k : State → Req α} (h : ∀ s, Keeps P (k s)) :
    Keeps P (Machine.withState k) := fun s hs => h s s hs

theorem Keeps.onFailure {α : Type} {P : State → Prop} {m : Req α} {f : State → State} (hm : Keeps P m)
    (hf : ∀ s, P s → P (f s)) : Keeps P (Machine.onFailure m f) := by
  intro s hs
  have h := hm s hs
  unfold Machine.onFailure
  cases hr : m s with
  | done v s' => rw [hr] at h; exact h
  | raised e s' => rw [hr] at h; exact hf s' h

theorem Keeps.forEach {α : Type} {P : State → Prop} {k : α → Req Unit} (hk : ∀ x, Keeps P (k x)) (xs : List α) :
    Keeps P (Machine.forEach xs k) := by
  induction xs with
  | nil => exact Keeps.ret ()
  | cons x xs ih => exact Keeps.andThen (hk x) fun _ => ih

theorem Keeps.executeBuffer {P : State → Prop} (hf : ∀ s, P s → P s.flushed) (hl : ∀ s, P s → P s.flushLost) :
    Keeps P Machine.executeBuffer := by
  intro s hs
  rcases executeBuffer_cases s with ⟨-, h⟩ | ⟨-, h⟩ <;> rw [h]
  · exact hf s hs
  · exact hl s hs

theorem Keeps.read {P : State → Prop} (n : Nat) (ht : ∀ s, P s → P (s.taken n)) (hl : ∀ s, P s → P s.readLost) :
    Keeps P (Machine.read n) := by
  intro s hs
  rcases read_cases n s with ⟨-, h⟩ | ⟨-, -, h⟩ | ⟨-, -, h⟩ <;> rw [h]
  · exact hs
  · exact ht s hs
  · exact hl s hs

theorem respondWith_keeps {P : State → Prop} (hr : ∀ s r, P s → P (s.respond r)) {m : Req Result} (hm : Keeps P m)
    {s : State} (hs : P s) : P (respondWith (m s)) := by
  have h := hm s hs
  cases hq : m s with
  | done v s' => rw [hq] at h; exact hr _ _ h
  | raised e s' => rw [hq] at h; exact hr _ _ h

end Sys2Proof.Machine
end

