-- ==== Sys2Proof/Laws/Engine.lean ====
section
/-! SUPPORT. Reading a byte stream as the engine does: how the reading of a concatenation splits, and what an opcode
byte and the bytes of a command's body do. -/

namespace Sys2Proof.Machine

theorem Cmd.mem_all (c : Cmd) : c ∈ Cmd.all := by cases c <;> decide

theorem Cmd.index_injective {c d : Cmd} (h : c.index = d.index) : c = d := by
  have hc : Cmd.all[c.index.val]? = some c := by cases c <;> rfl
  have hd : Cmd.all[d.index.val]? = some d := by cases d <;> rfl
  rw [h] at hc
  exact Option.some.inj (hc.symm.trans hd)

/-- Distinct commands have distinct opcode bytes (R9). -/
theorem opcOf_injective {p : Params} (h : p.opc.toList.Nodup) {c d : Cmd} (hcd : p.opcOf c = p.opcOf d) : c = d := by
  apply Cmd.index_injective
  have hc : c.index.val < p.opc.toList.length := by simp
  have hd : d.index.val < p.opc.toList.length := by simp
  apply Fin.ext
  refine (h.getElem_inj_iff (hi := hc) (hj := hd)).mp ?_
  simpa [Params.opcOf, Vector.get_eq_getElem] using hcd

/-- The opcode byte of a command is read as that command (R99). -/
theorem cmdOfByte_opcOf {p : Params} (h : p.opc.toList.Nodup) (c : Cmd) : cmdOfByte p (p.opcOf c) = some c := by
  unfold cmdOfByte
  cases hf : Cmd.all.find? (fun d => p.opcOf d == p.opcOf c) with
  | none =>
    rw [List.find?_eq_none] at hf
    exact absurd (hf c (Cmd.mem_all c)) (by simp)
  | some d =>
    have hd := List.find?_some hf
    exact congrArg some (opcOf_injective h (by simpa using hd))

@[simp] theorem Scan.bytes_nil (p : Params) (sc : Scan) : Scan.bytes p sc [] = sc := rfl

@[simp] theorem Scan.bytes_cons (p : Params) (sc : Scan) (b : Byte) (bs : Bytes) :
    Scan.bytes p sc (b :: bs) = Scan.bytes p (Scan.byte p sc b) bs := rfl

theorem Scan.bytes_append (p : Params) (sc : Scan) (as bs : Bytes) :
    Scan.bytes p sc (as ++ bs) = Scan.bytes p (Scan.bytes p sc as) bs := List.foldl_append

/-- The count so far does not change how the stream is split. -/
theorem Scan.byte_total (p : Params) (pos : ScanPos) (t : Nat) (b : Byte) :
    Scan.byte p ⟨pos, t⟩ b = ⟨(Scan.byte p ⟨pos, 0⟩ b).pos, t + (Scan.byte p ⟨pos, 0⟩ b).total⟩ := by
  cases pos with
  | start =>
    simp only [Scan.byte]
    cases cmdOfByte p b with
    | none => rfl
    | some c => simp only [Scan.opcode]; cases c.format <;> simp
  | body r l => cases l <;> simp [Scan.byte]
  | bitLen c => simp only [Scan.byte, Scan.bitLength]; split <;> [cases c.format <;> simp; rfl]
  | lenLo c => rfl
  | lenHi c lo => simp only [Scan.byte, Scan.byteLength]; cases c.format <;> simp
  | lost => rfl

theorem Scan.bytes_total (p : Params) (pos : ScanPos) (t : Nat) (bs : Bytes) :
    Scan.bytes p ⟨pos, t⟩ bs = ⟨(Scan.bytes p ⟨pos, 0⟩ bs).pos, t + (Scan.bytes p ⟨pos, 0⟩ bs).total⟩ := by
  induction bs generalizing pos t with
  | nil => rfl
  | cons b bs ih =>
    rw [Scan.bytes_cons, Scan.bytes_cons, Scan.byte_total]
    rw [ih, ih _ (Scan.byte p ⟨pos, 0⟩ b).total]
    simp [Nat.add_assoc]

/-- After a run of whole commands the rest of the stream is read as if it stood alone (R99, R70). -/
theorem responseTotal_append {p : Params} {as : Bytes} {m : Nat} (h : responseTotal p as = some m) (bs : Bytes) :
    responseTotal p (as ++ bs) = (responseTotal p bs).map (m + ·) := by
  unfold responseTotal at h ⊢
  dsimp only at h ⊢
  split at h
  · rename_i hp
    have ht : Scan.bytes p ⟨.start, 0⟩ as = ⟨.start, m⟩ := by
      cases hs : Scan.bytes p ⟨.start, 0⟩ as with
      | mk pos tot => rw [hs] at h hp; simp at h hp; rw [h, hp]
    rw [Scan.bytes_append, ht, Scan.bytes_total]
    split <;> simp_all
  · cases h

/-- The bytes of a command's body complete it (R99). -/
theorem Scan.bytes_body (p : Params) (r l t : Nat) (bs : Bytes) (h : bs.length = l + 1) :
    Scan.bytes p ⟨.body r l, t⟩ bs = ⟨.start, t + r⟩ := by
  induction l generalizing bs with
  | zero =>
    obtain ⟨b, rfl⟩ := List.length_eq_one_iff.mp h
    rfl
  | succ l ih =>
    cases bs with
    | nil => simp at h
    | cons b bs => exact ih bs (by simpa using h)

/-- Exactly as many bytes as are owed arrive. -/
@[simp] theorem supply_length (f : Nat → Byte) (n k : Nat) (bs : Bytes) : (supply f n k bs).length = n := by
  induction n generalizing k bs with
  | zero => rfl
  | succ n ih => cases bs <;> simp [supply, ih]

/-- Where the environment gives at least the bytes owed, they arrive unchanged and in order. -/
theorem supply_of_le (f : Nat → Byte) (n k : Nat) (bs : Bytes) (h : n ≤ bs.length) : supply f n k bs = bs.take n := by
  induction n generalizing k bs with
  | zero => simp [supply]
  | succ n ih =>
    cases bs with
    | nil => simp at h
    | cons b bs => simp [supply, ih (k + 1) bs (by simpa using h)]

end Sys2Proof.Machine
end

