-- ==== Sys2Proof/Laws/PerInstr.lean ====
section
/-! SUPPORT. Per-instruction families. `CodeRead`: the first byte of an instruction's encoding selects that
instruction's operation, at the decoder of its kind alone (R97, R103, R104). -/

namespace Sys2Proof.Laws

/-- The operation a byte selects at the request port. -/
theorem ofCode_code (o : Op) : Op.ofCode o.code = if o.isCommand then none else some o := by
  cases o with
  | command c => cases c <;> rfl
  | enc c => cases c <;> rfl
  | _ => rfl

/-- The engine command a byte selects at the function interface. -/
theorem ofOpcode_code (o : Op) : (Cmd.ofOpcode o.code).map Op.command = if o.isCommand then some o else none := by
  cases o with
  | command c => cases c <;> rfl
  | enc c => cases c <;> rfl
  | _ => rfl

theorem ofOpcode_defaultOpc (c : Cmd) : Cmd.ofOpcode c.defaultOpc = some c := by cases c <;> rfl

/-- The first byte of the encoding of `i` selects the operation of `i`: at the function interface and not at the request
port where `i` is an engine command, the other way round where it is a request. -/
def CodeRead.Statement (i : Instr) : Prop :=
  (encode i).head?.bind Op.ofCode = (if i.op.isCommand then none else some i.op) ∧
  ((encode i).head?.bind Cmd.ofOpcode).map Op.command = if i.op.isCommand then some i.op else none

/-- The one reason for every instruction. -/
theorem codeRead (i : Instr) : CodeRead.Statement i := ⟨ofCode_code i.op, ofOpcode_code i.op⟩

end Sys2Proof.Laws

open Sys2Proof

theorem Sys2Proof.Laws.CodeRead.setClockDivisor (div : Half) :
    Sys2Proof.Laws.CodeRead.Statement (.setClockDivisor div) := Sys2Proof.Laws.codeRead _

theorem Sys2Proof.Laws.CodeRead.clkDiv5Disable :
    Sys2Proof.Laws.CodeRead.Statement (.clkDiv5Disable) := Sys2Proof.Laws.codeRead _

theorem Sys2Proof.Laws.CodeRead.clkDiv5Enable :
    Sys2Proof.Laws.CodeRead.Statement (.clkDiv5Enable) := Sys2Proof.Laws.codeRead _

theorem Sys2Proof.Laws.CodeRead.threePhaseEnable :
    Sys2Proof.Laws.CodeRead.Statement (.threePhaseEnable) := Sys2Proof.Laws.codeRead _

theorem Sys2Proof.Laws.CodeRead.threePhaseDisable :
    Sys2Proof.Laws.CodeRead.Statement (.threePhaseDisable) := Sys2Proof.Laws.codeRead _

theorem Sys2Proof.Laws.CodeRead.adaptiveEnable :
    Sys2Proof.Laws.CodeRead.Statement (.adaptiveEnable) := Sys2Proof.Laws.codeRead _

theorem Sys2Proof.Laws.CodeRead.adaptiveDisable :
    Sys2Proof.Laws.CodeRead.Statement (.adaptiveDisable) := Sys2Proof.Laws.codeRead _

theorem Sys2Proof.Laws.CodeRead.loopbackConnect :
    Sys2Proof.Laws.CodeRead.Statement (.loopbackConnect) := Sys2Proof.Laws.codeRead _

theorem Sys2Proof.Laws.CodeRead.loopbackDisconnect :
    Sys2Proof.Laws.CodeRead.Statement (.loopbackDisconnect) := Sys2Proof.Laws.codeRead _

theorem Sys2Proof.Laws.CodeRead.sendImmediate :
    Sys2Proof.Laws.CodeRead.Statement (.sendImmediate) := Sys2Proof.Laws.codeRead _

theorem Sys2Proof.Laws.CodeRead.waitOnHigh :
    Sys2Proof.Laws.CodeRead.Statement (.waitOnHigh) := Sys2Proof.Laws.codeRead _

theorem Sys2Proof.Laws.CodeRead.waitOnLow :
    Sys2Proof.Laws.CodeRead.Statement (.waitOnLow) := Sys2Proof.Laws.codeRead _

theorem Sys2Proof.Laws.CodeRead.setDataBitsLow (val dir : Byte) :
    Sys2Proof.Laws.CodeRead.Statement (.setDataBitsLow val dir) := Sys2Proof.Laws.codeRead _

theorem Sys2Proof.Laws.CodeRead.setDataBitsHigh (val dir : Byte) :
    Sys2Proof.Laws.CodeRead.Statement (.setDataBitsHigh val dir) := Sys2Proof.Laws.codeRead _

theorem Sys2Proof.Laws.CodeRead.readDataBitsLow :
    Sys2Proof.Laws.CodeRead.Statement (.readDataBitsLow) := Sys2Proof.Laws.codeRead _

theorem Sys2Proof.Laws.CodeRead.readDataBitsHigh :
    Sys2Proof.Laws.CodeRead.Statement (.readDataBitsHigh) := Sys2Proof.Laws.codeRead _

theorem Sys2Proof.Laws.CodeRead.bytesOutPlusMsb (payload : Bytes) (off len : Option Nat) :
    Sys2Proof.Laws.CodeRead.Statement (.bytesOutPlusMsb payload off len) := Sys2Proof.Laws.codeRead _

theorem Sys2Proof.Laws.CodeRead.bytesOutMinusMsb (payload : Bytes) (off len : Option Nat) :
    Sys2Proof.Laws.CodeRead.Statement (.bytesOutMinusMsb payload off len) := Sys2Proof.Laws.codeRead _

theorem Sys2Proof.Laws.CodeRead.bytesOutPlusLsb (payload : Bytes) (off len : Option Nat) :
    Sys2Proof.Laws.CodeRead.Statement (.bytesOutPlusLsb payload off len) := Sys2Proof.Laws.codeRead _

theorem Sys2Proof.Laws.CodeRead.bytesOutMinusLsb (payload : Bytes) (off len : Option Nat) :
    Sys2Proof.Laws.CodeRead.Statement (.bytesOutMinusLsb payload off len) := Sys2Proof.Laws.codeRead _

theorem Sys2Proof.Laws.CodeRead.bytesInPlusMsb (len : Nat) :
    Sys2Proof.Laws.CodeRead.Statement (.bytesInPlusMsb len) := Sys2Proof.Laws.codeRead _

theorem Sys2Proof.Laws.CodeRead.bytesInMinusMsb (len : Nat) :
    Sys2Proof.Laws.CodeRead.Statement (.bytesInMinusMsb len) := Sys2Proof.Laws.codeRead _

theorem Sys2Proof.Laws.CodeRead.bytesInPlusLsb (len : Nat) :
    Sys2Proof.Laws.CodeRead.Statement (.bytesInPlusLsb len) := Sys2Proof.Laws.codeRead _

theorem Sys2Proof.Laws.CodeRead.bytesInMinusLsb (len : Nat) :
    Sys2Proof.Laws.CodeRead.Statement (.bytesInMinusLsb len) := Sys2Proof.Laws.codeRead _

theorem Sys2Proof.Laws.CodeRead.bytesInPlusOutMinusMsb (payload : Bytes) (off len : Option Nat) :
    Sys2Proof.Laws.CodeRead.Statement (.bytesInPlusOutMinusMsb payload off len) := Sys2Proof.Laws.codeRead _

theorem Sys2Proof.Laws.CodeRead.bytesInMinusOutPlusMsb (payload : Bytes) (off len : Option Nat) :
    Sys2Proof.Laws.CodeRead.Statement (.bytesInMinusOutPlusMsb payload off len) := Sys2Proof.Laws.codeRead _

theorem Sys2Proof.Laws.CodeRead.bytesInPlusOutMinusLsb (payload : Bytes) (off len : Option Nat) :
    Sys2Proof.Laws.CodeRead.Statement (.bytesInPlusOutMinusLsb payload off len) := Sys2Proof.Laws.codeRead _

theorem Sys2Proof.Laws.CodeRead.bytesInMinusOutPlusLsb (payload : Bytes) (off len : Option Nat) :
    Sys2Proof.Laws.CodeRead.Statement (.bytesInMinusOutPlusLsb payload off len) := Sys2Proof.Laws.codeRead _

theorem Sys2Proof.Laws.CodeRead.bitsOutPlusMsb (data : Byte) (count : Nat) :
    Sys2Proof.Laws.CodeRead.Statement (.bitsOutPlusMsb data count) := Sys2Proof.Laws.codeRead _

theorem Sys2Proof.Laws.CodeRead.bitsOutMinusMsb (data : Byte) (count : Nat) :
    Sys2Proof.Laws.CodeRead.Statement (.bitsOutMinusMsb data count) := Sys2Proof.Laws.codeRead _

theorem Sys2Proof.Laws.CodeRead.bitsOutPlusLsb (data : Byte) (count : Nat) :
    Sys2Proof.Laws.CodeRead.Statement (.bitsOutPlusLsb data count) := Sys2Proof.Laws.codeRead _

theorem Sys2Proof.Laws.CodeRead.bitsOutMinusLsb (data : Byte) (count : Nat) :
    Sys2Proof.Laws.CodeRead.Statement (.bitsOutMinusLsb data count) := Sys2Proof.Laws.codeRead _

theorem Sys2Proof.Laws.CodeRead.bitsInPlusMsb (count : Nat) :
    Sys2Proof.Laws.CodeRead.Statement (.bitsInPlusMsb count) := Sys2Proof.Laws.codeRead _

theorem Sys2Proof.Laws.CodeRead.bitsInMinusMsb (count : Nat) :
    Sys2Proof.Laws.CodeRead.Statement (.bitsInMinusMsb count) := Sys2Proof.Laws.codeRead _

theorem Sys2Proof.Laws.CodeRead.bitsInPlusLsb (count : Nat) :
    Sys2Proof.Laws.CodeRead.Statement (.bitsInPlusLsb count) := Sys2Proof.Laws.codeRead _

theorem Sys2Proof.Laws.CodeRead.bitsInMinusLsb (count : Nat) :
    Sys2Proof.Laws.CodeRead.Statement (.bitsInMinusLsb count) := Sys2Proof.Laws.codeRead _

theorem Sys2Proof.Laws.CodeRead.bitsInPlusOutMinusMsb (data : Byte) (count : Nat) :
    Sys2Proof.Laws.CodeRead.Statement (.bitsInPlusOutMinusMsb data count) := Sys2Proof.Laws.codeRead _

theorem Sys2Proof.Laws.CodeRead.bitsInMinusOutPlusMsb (data : Byte) (count : Nat) :
    Sys2Proof.Laws.CodeRead.Statement (.bitsInMinusOutPlusMsb data count) := Sys2Proof.Laws.codeRead _

theorem Sys2Proof.Laws.CodeRead.bitsInPlusOutMinusLsb (data : Byte) (count : Nat) :
    Sys2Proof.Laws.CodeRead.Statement (.bitsInPlusOutMinusLsb data count) := Sys2Proof.Laws.codeRead _

theorem Sys2Proof.Laws.CodeRead.bitsInMinusOutPlusLsb (data : Byte) (count : Nat) :
    Sys2Proof.Laws.CodeRead.Statement (.bitsInMinusOutPlusLsb data count) := Sys2Proof.Laws.codeRead _

theorem Sys2Proof.Laws.CodeRead.encSetClockDivisor (div : Half) :
    Sys2Proof.Laws.CodeRead.Statement (.encSetClockDivisor div) := Sys2Proof.Laws.codeRead _

theorem Sys2Proof.Laws.CodeRead.encClkDiv5Disable :
    Sys2Proof.Laws.CodeRead.Statement (.encClkDiv5Disable) := Sys2Proof.Laws.codeRead _

theorem Sys2Proof.Laws.CodeRead.encClkDiv5Enable :
    Sys2Proof.Laws.CodeRead.Statement (.encClkDiv5Enable) := Sys2Proof.Laws.codeRead _

theorem Sys2Proof.Laws.CodeRead.encThreePhaseEnable :
    Sys2Proof.Laws.CodeRead.Statement (.encThreePhaseEnable) := Sys2Proof.Laws.codeRead _

theorem Sys2Proof.Laws.CodeRead.encThreePhaseDisable :
    Sys2Proof.Laws.CodeRead.Statement (.encThreePhaseDisable) := Sys2Proof.Laws.codeRead _

theorem Sys2Proof.Laws.CodeRead.encAdaptiveEnable :
    Sys2Proof.Laws.CodeRead.Statement (.encAdaptiveEnable) := Sys2Proof.Laws.codeRead _

theorem Sys2Proof.Laws.CodeRead.encAdaptiveDisable :
    Sys2Proof.Laws.CodeRead.Statement (.encAdaptiveDisable) := Sys2Proof.Laws.codeRead _

theorem Sys2Proof.Laws.CodeRead.encLoopbackConnect :
    Sys2Proof.Laws.CodeRead.Statement (.encLoopbackConnect) := Sys2Proof.Laws.codeRead _

theorem Sys2Proof.Laws.CodeRead.encLoopbackDisconnect :
    Sys2Proof.Laws.CodeRead.Statement (.encLoopbackDisconnect) := Sys2Proof.Laws.codeRead _

theorem Sys2Proof.Laws.CodeRead.encSendImmediate :
    Sys2Proof.Laws.CodeRead.Statement (.encSendImmediate) := Sys2Proof.Laws.codeRead _

theorem Sys2Proof.Laws.CodeRead.encWaitOnHigh :
    Sys2Proof.Laws.CodeRead.Statement (.encWaitOnHigh) := Sys2Proof.Laws.codeRead _

theorem Sys2Proof.Laws.CodeRead.encWaitOnLow :
    Sys2Proof.Laws.CodeRead.Statement (.encWaitOnLow) := Sys2Proof.Laws.codeRead _

theorem Sys2Proof.Laws.CodeRead.encSetDataBitsLow (val dir : Byte) :
    Sys2Proof.Laws.CodeRead.Statement (.encSetDataBitsLow val dir) := Sys2Proof.Laws.codeRead _

theorem Sys2Proof.Laws.CodeRead.encSetDataBitsHigh (val dir : Byte) :
    Sys2Proof.Laws.CodeRead.Statement (.encSetDataBitsHigh val dir) := Sys2Proof.Laws.codeRead _

theorem Sys2Proof.Laws.CodeRead.encReadDataBitsLow :
    Sys2Proof.Laws.CodeRead.Statement (.encReadDataBitsLow) := Sys2Proof.Laws.codeRead _

theorem Sys2Proof.Laws.CodeRead.encReadDataBitsHigh :
    Sys2Proof.Laws.CodeRead.Statement (.encReadDataBitsHigh) := Sys2Proof.Laws.codeRead _

theorem Sys2Proof.Laws.CodeRead.encBytesOutPlusMsb (payload : Bytes) (off len : Option Nat) :
    Sys2Proof.Laws.CodeRead.Statement (.encBytesOutPlusMsb payload off len) := Sys2Proof.Laws.codeRead _

theorem Sys2Proof.Laws.CodeRead.encBytesOutMinusMsb (payload : Bytes) (off len : Option Nat) :
    Sys2Proof.Laws.CodeRead.Statement (.encBytesOutMinusMsb payload off len) := Sys2Proof.Laws.codeRead _

theorem Sys2Proof.Laws.CodeRead.encBytesOutPlusLsb (payload : Bytes) (off len : Option Nat) :
    Sys2Proof.Laws.CodeRead.Statement (.encBytesOutPlusLsb payload off len) := Sys2Proof.Laws.codeRead _

theorem Sys2Proof.Laws.CodeRead.encBytesOutMinusLsb (payload : Bytes) (off len : Option Nat) :
    Sys2Proof.Laws.CodeRead.Statement (.encBytesOutMinusLsb payload off len) := Sys2Proof.Laws.codeRead _

theorem Sys2Proof.Laws.CodeRead.encBytesInPlusMsb (len : Nat) :
    Sys2Proof.Laws.CodeRead.Statement (.encBytesInPlusMsb len) := Sys2Proof.Laws.codeRead _

theorem Sys2Proof.Laws.CodeRead.encBytesInMinusMsb (len : Nat) :
    Sys2Proof.Laws.CodeRead.Statement (.encBytesInMinusMsb len) := Sys2Proof.Laws.codeRead _

theorem Sys2Proof.Laws.CodeRead.encBytesInPlusLsb (len : Nat) :
    Sys2Proof.Laws.CodeRead.Statement (.encBytesInPlusLsb len) := Sys2Proof.Laws.codeRead _

theorem Sys2Proof.Laws.CodeRead.encBytesInMinusLsb (len : Nat) :
    Sys2Proof.Laws.CodeRead.Statement (.encBytesInMinusLsb len) := Sys2Proof.Laws.codeRead _

theorem Sys2Proof.Laws.CodeRead.encBytesInPlusOutMinusMsb (payload : Bytes) (off len : Option Nat) :
    Sys2Proof.Laws.CodeRead.Statement (.encBytesInPlusOutMinusMsb payload off len) := Sys2Proof.Laws.codeRead _

theorem Sys2Proof.Laws.CodeRead.encBytesInMinusOutPlusMsb (payload : Bytes) (off len : Option Nat) :
    Sys2Proof.Laws.CodeRead.Statement (.encBytesInMinusOutPlusMsb payload off len) := Sys2Proof.Laws.codeRead _

theorem Sys2Proof.Laws.CodeRead.encBytesInPlusOutMinusLsb (payload : Bytes) (off len : Option Nat) :
    Sys2Proof.Laws.CodeRead.Statement (.encBytesInPlusOutMinusLsb payload off len) := Sys2Proof.Laws.codeRead _

theorem Sys2Proof.Laws.CodeRead.encBytesInMinusOutPlusLsb (payload : Bytes) (off len : Option Nat) :
    Sys2Proof.Laws.CodeRead.Statement (.encBytesInMinusOutPlusLsb payload off len) := Sys2Proof.Laws.codeRead _

theorem Sys2Proof.Laws.CodeRead.encBitsOutPlusMsb (data : Byte) (count : Nat) :
    Sys2Proof.Laws.CodeRead.Statement (.encBitsOutPlusMsb data count) := Sys2Proof.Laws.codeRead _

theorem Sys2Proof.Laws.CodeRead.encBitsOutMinusMsb (data : Byte) (count : Nat) :
    Sys2Proof.Laws.CodeRead.Statement (.encBitsOutMinusMsb data count) := Sys2Proof.Laws.codeRead _

theorem Sys2Proof.Laws.CodeRead.encBitsOutPlusLsb (data : Byte) (count : Nat) :
    Sys2Proof.Laws.CodeRead.Statement (.encBitsOutPlusLsb data count) := Sys2Proof.Laws.codeRead _

theorem Sys2Proof.Laws.CodeRead.encBitsOutMinusLsb (data : Byte) (count : Nat) :
    Sys2Proof.Laws.CodeRead.Statement (.encBitsOutMinusLsb data count) := Sys2Proof.Laws.codeRead _

theorem Sys2Proof.Laws.CodeRead.encBitsInPlusMsb (count : Nat) :
    Sys2Proof.Laws.CodeRead.Statement (.encBitsInPlusMsb count) := Sys2Proof.Laws.codeRead _

theorem Sys2Proof.Laws.CodeRead.encBitsInMinusMsb (count : Nat) :
    Sys2Proof.Laws.CodeRead.Statement (.encBitsInMinusMsb count) := Sys2Proof.Laws.codeRead _

theorem Sys2Proof.Laws.CodeRead.encBitsInPlusLsb (count : Nat) :
    Sys2Proof.Laws.CodeRead.Statement (.encBitsInPlusLsb count) := Sys2Proof.Laws.codeRead _

theorem Sys2Proof.Laws.CodeRead.encBitsInMinusLsb (count : Nat) :
    Sys2Proof.Laws.CodeRead.Statement (.encBitsInMinusLsb count) := Sys2Proof.Laws.codeRead _

theorem Sys2Proof.Laws.CodeRead.encBitsInPlusOutMinusMsb (data : Byte) (count : Nat) :
    Sys2Proof.Laws.CodeRead.Statement (.encBitsInPlusOutMinusMsb data count) := Sys2Proof.Laws.codeRead _

theorem Sys2Proof.Laws.CodeRead.encBitsInMinusOutPlusMsb (data : Byte) (count : Nat) :
    Sys2Proof.Laws.CodeRead.Statement (.encBitsInMinusOutPlusMsb data count) := Sys2Proof.Laws.codeRead _

theorem Sys2Proof.Laws.CodeRead.encBitsInPlusOutMinusLsb (data : Byte) (count : Nat) :
    Sys2Proof.Laws.CodeRead.Statement (.encBitsInPlusOutMinusLsb data count) := Sys2Proof.Laws.codeRead _

theorem Sys2Proof.Laws.CodeRead.encBitsInMinusOutPlusLsb (data : Byte) (count : Nat) :
    Sys2Proof.Laws.CodeRead.Statement (.encBitsInMinusOutPlusLsb data count) := Sys2Proof.Laws.codeRead _

theorem Sys2Proof.Laws.CodeRead.i2cInit (div : Half) (t1 t2 t3 t4 t5 : Nat) :
    Sys2Proof.Laws.CodeRead.Statement (.i2cInit div t1 t2 t3 t4 t5) := Sys2Proof.Laws.codeRead _

theorem Sys2Proof.Laws.CodeRead.i2cSetTiming (t1 t2 t3 t4 t5 : Nat) :
    Sys2Proof.Laws.CodeRead.Statement (.i2cSetTiming t1 t2 t3 t4 t5) := Sys2Proof.Laws.codeRead _

theorem Sys2Proof.Laws.CodeRead.i2cStart :
    Sys2Proof.Laws.CodeRead.Statement (.i2cStart) := Sys2Proof.Laws.codeRead _

theorem Sys2Proof.Laws.CodeRead.i2cStop :
    Sys2Proof.Laws.CodeRead.Statement (.i2cStop) := Sys2Proof.Laws.codeRead _

theorem Sys2Proof.Laws.CodeRead.i2cSendByte (b : Byte) :
    Sys2Proof.Laws.CodeRead.Statement (.i2cSendByte b) := Sys2Proof.Laws.codeRead _

theorem Sys2Proof.Laws.CodeRead.i2cSendAddress (a7 : Addr7) (rw : Bit) :
    Sys2Proof.Laws.CodeRead.Statement (.i2cSendAddress a7 rw) := Sys2Proof.Laws.codeRead _

theorem Sys2Proof.Laws.CodeRead.i2cReceiveByte (a : Bool) :
    Sys2Proof.Laws.CodeRead.Statement (.i2cReceiveByte a) := Sys2Proof.Laws.codeRead _

theorem Sys2Proof.Laws.CodeRead.i2cScan :
    Sys2Proof.Laws.CodeRead.Statement (.i2cScan) := Sys2Proof.Laws.codeRead _

theorem Sys2Proof.Laws.CodeRead.i2cWrite (a7 : Addr7) (reg : Byte) (data : Bytes) :
    Sys2Proof.Laws.CodeRead.Statement (.i2cWrite a7 reg data) := Sys2Proof.Laws.codeRead _

theorem Sys2Proof.Laws.CodeRead.i2cRead (a7 : Addr7) (reg : Byte) (n : Nat) :
    Sys2Proof.Laws.CodeRead.Statement (.i2cRead a7 reg n) := Sys2Proof.Laws.codeRead _

theorem Sys2Proof.Laws.CodeRead.i2cFastWrite (a7 : Addr7) (reg : Byte) (data : Bytes) :
    Sys2Proof.Laws.CodeRead.Statement (.i2cFastWrite a7 reg data) := Sys2Proof.Laws.codeRead _

theorem Sys2Proof.Laws.CodeRead.i2cFastRead (a7 : Addr7) (reg : Byte) (n : Nat) :
    Sys2Proof.Laws.CodeRead.Statement (.i2cFastRead a7 reg n) := Sys2Proof.Laws.codeRead _

theorem Sys2Proof.Laws.CodeRead.spiInit (mode : Mode) (order : Order) (csPin : Byte) (policy : CsPolicy) (lowVal lowDir : Byte) :
    Sys2Proof.Laws.CodeRead.Statement (.spiInit mode order csPin policy lowVal lowDir) := Sys2Proof.Laws.codeRead _

theorem Sys2Proof.Laws.CodeRead.spiSetCsLevel (level : Bit) :
    Sys2Proof.Laws.CodeRead.Statement (.spiSetCsLevel level) := Sys2Proof.Laws.codeRead _

theorem Sys2Proof.Laws.CodeRead.spiEnable :
    Sys2Proof.Laws.CodeRead.Statement (.spiEnable) := Sys2Proof.Laws.codeRead _

theorem Sys2Proof.Laws.CodeRead.spiDisable :
    Sys2Proof.Laws.CodeRead.Statement (.spiDisable) := Sys2Proof.Laws.codeRead _

theorem Sys2Proof.Laws.CodeRead.spiWrite (payload : Bytes) :
    Sys2Proof.Laws.CodeRead.Statement (.spiWrite payload) := Sys2Proof.Laws.codeRead _

theorem Sys2Proof.Laws.CodeRead.spiTransfer (payload : Bytes) :
    Sys2Proof.Laws.CodeRead.Statement (.spiTransfer payload) := Sys2Proof.Laws.codeRead _

theorem Sys2Proof.Laws.CodeRead.dcInit (mode : Mode) (order : Order) (csPin : Byte) (policy : CsPolicy) (lowVal lowDir dcPin rstPin highVal highDir : Byte) :
    Sys2Proof.Laws.CodeRead.Statement (.dcInit mode order csPin policy lowVal lowDir dcPin rstPin highVal highDir) := Sys2Proof.Laws.codeRead _

theorem Sys2Proof.Laws.CodeRead.dcSetDcLevel (isCommand : Bool) :
    Sys2Proof.Laws.CodeRead.Statement (.dcSetDcLevel isCommand) := Sys2Proof.Laws.codeRead _

theorem Sys2Proof.Laws.CodeRead.dcWrite (payload : Bytes) (isCommand : Bool) :
    Sys2Proof.Laws.CodeRead.Statement (.dcWrite payload isCommand) := Sys2Proof.Laws.codeRead _

theorem Sys2Proof.Laws.CodeRead.dcTransfer (payload : Bytes) (isCommand : Bool) :
    Sys2Proof.Laws.CodeRead.Statement (.dcTransfer payload isCommand) := Sys2Proof.Laws.codeRead _

theorem Sys2Proof.Laws.CodeRead.dcCommandStream (buf : Bytes) :
    Sys2Proof.Laws.CodeRead.Statement (.dcCommandStream buf) := Sys2Proof.Laws.codeRead _

theorem Sys2Proof.Laws.CodeRead.dcResetDance :
    Sys2Proof.Laws.CodeRead.Statement (.dcResetDance) := Sys2Proof.Laws.codeRead _

theorem Sys2Proof.Laws.CodeRead.dcResetTimed (ms1 ms2 : Millis) :
    Sys2Proof.Laws.CodeRead.Statement (.dcResetTimed ms1 ms2) := Sys2Proof.Laws.codeRead _

theorem Sys2Proof.Laws.CodeRead.xpEnqueue (bytes : Bytes) :
    Sys2Proof.Laws.CodeRead.Statement (.xpEnqueue bytes) := Sys2Proof.Laws.codeRead _

theorem Sys2Proof.Laws.CodeRead.xpExecute :
    Sys2Proof.Laws.CodeRead.Statement (.xpExecute) := Sys2Proof.Laws.codeRead _

theorem Sys2Proof.Laws.CodeRead.xpRead (n : Nat) :
    Sys2Proof.Laws.CodeRead.Statement (.xpRead n) := Sys2Proof.Laws.codeRead _

theorem Sys2Proof.Laws.CodeRead.xpClearInput :
    Sys2Proof.Laws.CodeRead.Statement (.xpClearInput) := Sys2Proof.Laws.codeRead _

theorem Sys2Proof.Laws.CodeRead.xpClearOutput :
    Sys2Proof.Laws.CodeRead.Statement (.xpClearOutput) := Sys2Proof.Laws.codeRead _

theorem Sys2Proof.Laws.CodeRead.xpSetClockDivisor (d : Half) :
    Sys2Proof.Laws.CodeRead.Statement (.xpSetClockDivisor d) := Sys2Proof.Laws.codeRead _

theorem Sys2Proof.Laws.CodeRead.xpSetLoopback (b : Bool) :
    Sys2Proof.Laws.CodeRead.Statement (.xpSetLoopback b) := Sys2Proof.Laws.codeRead _
end

