-- ==== Sys2Proof/Tests/Slice0.lean ====
section
/-! SUPPORT. Tests of this model on fixed values, and for every obligation with hypotheses a state and operands that
meet them. The expected bytes are those of spec/: the formats R91 to R95, the opcode table R97 and the select codes R104
of 30_encoding.md, and the vectors V1 to V16 and programs P1 to P5 of 95_test_vectors.md, as each comment says. -/

namespace Sys2Proof.Tests

open Sys2Proof.Machine

-- One proof after the other: side by side they wait for one kernel, each with a stack of its own.
set_option Elab.async false

/-! ## WellFormed: one ill-formed term for each check -/

/-- A payload command whose payload is empty, or comes with an offset, or with a length, has no wire form (R94). -/
theorem test_wellFormed_refuses_payloads :
    [Instr.bytesOutPlusMsb [] none none, .bytesOutPlusMsb [1, 2] (some 0) none, .bytesOutPlusMsb [1, 2] none (some 2),
     .bytesOutMinusMsb [] none none, .bytesOutPlusLsb [] none none, .bytesOutMinusLsb [] none none,
     .bytesInPlusOutMinusMsb [] none none, .bytesInMinusOutPlusMsb [1] (some 0) none,
     .bytesInPlusOutMinusLsb [1] none (some 1), .bytesInMinusOutPlusLsb [] none none].all
      (fun i => !i.wellFormed) = true := by decide

/-- A payload of 65537 bytes is too long for one command (R94). -/
theorem test_wellFormed_refuses_a_payload_too_long (payload : Bytes) (h : payload.length = 65537) :
    (Instr.bytesOutPlusMsb payload none none).wellFormed = false := by simp [Instr.wellFormed, wholePayload, h]

/-- Byte counts 0 and 65537 (R94). -/
theorem test_wellFormed_refuses_byte_counts :
    [Instr.bytesInPlusMsb 0, .bytesInPlusMsb 65537, .bytesInMinusMsb 0, .bytesInMinusMsb 65537, .bytesInPlusLsb 0,
     .bytesInPlusLsb 65537, .bytesInMinusLsb 0, .bytesInMinusLsb 65537].all (fun i => !i.wellFormed) = true := by decide

/-- Bit counts 0 and 9 (R95). -/
theorem test_wellFormed_refuses_bit_counts :
    [Instr.bitsOutPlusMsb 1 0, .bitsOutPlusMsb 1 9, .bitsOutMinusMsb 1 0, .bitsOutPlusLsb 1 9, .bitsOutMinusLsb 1 9,
     .bitsInPlusMsb 0, .bitsInPlusMsb 9, .bitsInMinusMsb 0, .bitsInPlusLsb 9, .bitsInMinusLsb 0,
     .bitsInPlusOutMinusMsb 1 0, .bitsInMinusOutPlusMsb 1 9, .bitsInPlusOutMinusLsb 1 0,
     .bitsInMinusOutPlusLsb 1 9].all (fun i => !i.wellFormed) = true := by decide

/-- A request of any operands has an encoding: the lengths an engine command refuses are operands here (R121). -/
theorem test_wellFormed_takes_request_operands :
    [Instr.encBytesInPlusMsb 65537, .encBitsInPlusMsb 9, .encBytesOutPlusMsb [] (some 7) (some 0),
     .i2cInit 0 0 256 1 1 1].all Instr.wellFormed = true := by decide

/-! ## Decode and encode: every constructor's bytes, written out -/

/-- The decoder of an instruction's kind: an engine command is no request (R104). -/
def decodeAs (i : Instr) (bs : Bytes) : Except DecodeError (Instr × Bytes) :=
  if i.op.isCommand then decodeCommand bs else decodeRequest bs

/-- The bytes are read as the instruction, whole, and the instruction is written as the bytes. -/
def isWord (x : Bytes × Instr) : Bool :=
  (match decodeAs x.2 x.1 with
   | .ok (i, []) => i == x.2
   | _ => false) && encode x.2 == x.1

/-- The request port refuses the bytes with this error. -/
def refusedAs (bs : Bytes) (e : DecodeError) : Bool :=
  match decodeRequest bs with
  | .error e' => e' == e
  | .ok _ => false

/-- The function interface refuses the bytes with this error. -/
def noCommandAs (bs : Bytes) (e : DecodeError) : Bool :=
  match decodeCommand bs with
  | .error e' => e' == e
  | .ok _ => false

/-- Engine commands of the formats N, D, P, YI, BO, BIO and BI (R91 to R93, R94, R95), opcodes of R97; 4660 is V2. -/
theorem test_decode_commands_without_payload :
    [([0x86, 0x2B, 0x01], Instr.setClockDivisor 0x012B),
     ([0x8A], .clkDiv5Disable),
     ([0x8B], .clkDiv5Enable),
     ([0x8C], .threePhaseEnable),
     ([0x8D], .threePhaseDisable),
     ([0x96], .adaptiveEnable),
     ([0x97], .adaptiveDisable),
     ([0x84], .loopbackConnect),
     ([0x85], .loopbackDisconnect),
     ([0x87], .sendImmediate),
     ([0x88], .waitOnHigh),
     ([0x89], .waitOnLow),
     ([0x80, 0x08, 0x0B], .setDataBitsLow 0x08 0x0B),
     ([0x82, 0x08, 0x0B], .setDataBitsHigh 0x08 0x0B),
     ([0x81], .readDataBitsLow),
     ([0x83], .readDataBitsHigh),
     ([0x20, 0x33, 0x12], .bytesInPlusMsb 4660),
     ([0x24, 0x33, 0x12], .bytesInMinusMsb 4660),
     ([0x28, 0x33, 0x12], .bytesInPlusLsb 4660),
     ([0x2C, 0x33, 0x12], .bytesInMinusLsb 4660),
     ([0x12, 0x04, 0xA5], .bitsOutPlusMsb 0xA5 5),
     ([0x13, 0x05, 0xA5], .bitsOutMinusMsb 0xA5 6),
     ([0x1A, 0x06, 0xA5], .bitsOutPlusLsb 0xA5 7),
     ([0x1B, 0x07, 0xA5], .bitsOutMinusLsb 0xA5 8),
     ([0x22, 0x00], .bitsInPlusMsb 1),
     ([0x26, 0x01], .bitsInMinusMsb 2),
     ([0x2A, 0x02], .bitsInPlusLsb 3),
     ([0x2E, 0x03], .bitsInMinusLsb 4),
     ([0x33, 0x04, 0xA5], .bitsInPlusOutMinusMsb 0xA5 5),
     ([0x36, 0x05, 0xA5], .bitsInMinusOutPlusMsb 0xA5 6),
     ([0x3B, 0x06, 0xA5], .bitsInPlusOutMinusLsb 0xA5 7),
     ([0x3E, 0x07, 0xA5], .bitsInMinusOutPlusLsb 0xA5 8)
    ].all isWord = true := by decide +kernel

/-- Engine commands of the formats YO and YIO (R94), opcodes of R97. -/
theorem test_decode_commands_with_payload :
    [([0x10, 0x00, 0x00, 0xDE], Instr.bytesOutPlusMsb [0xDE] none none),
     ([0x11, 0x01, 0x00, 0xDE, 0xAD], .bytesOutMinusMsb [0xDE, 0xAD] none none),
     ([0x18, 0x02, 0x00, 0xDE, 0xAD, 0xBE], .bytesOutPlusLsb [0xDE, 0xAD, 0xBE] none none),
     ([0x19, 0x03, 0x00, 0xDE, 0xAD, 0xBE, 0xEF], .bytesOutMinusLsb [0xDE, 0xAD, 0xBE, 0xEF] none none),
     ([0x31, 0x00, 0x00, 0xDE], .bytesInPlusOutMinusMsb [0xDE] none none),
     ([0x34, 0x01, 0x00, 0xDE, 0xAD], .bytesInMinusOutPlusMsb [0xDE, 0xAD] none none),
     ([0x39, 0x02, 0x00, 0xDE, 0xAD, 0xBE], .bytesInPlusOutMinusLsb [0xDE, 0xAD, 0xBE] none none),
     ([0x3C, 0x03, 0x00, 0xDE, 0xAD, 0xBE, 0xEF], .bytesInMinusOutPlusLsb [0xDE, 0xAD, 0xBE, 0xEF] none none)
    ].all isWord = true := by decide +kernel

/-- ENC requests: select codes of R104, operands in the layout of log 1. -/
theorem test_decode_enc_requests :
    [([0xA0, 0xFF, 0x01], Instr.encSetClockDivisor 0x01FF),
     ([0xA1], .encClkDiv5Disable),
     ([0xA2], .encClkDiv5Enable),
     ([0xA3], .encThreePhaseEnable),
     ([0xA4], .encThreePhaseDisable),
     ([0xA5], .encAdaptiveEnable),
     ([0xA6], .encAdaptiveDisable),
     ([0xA7], .encLoopbackConnect),
     ([0xA8], .encLoopbackDisconnect),
     ([0xA9], .encSendImmediate),
     ([0xAA], .encWaitOnHigh),
     ([0xAB], .encWaitOnLow),
     ([0xAC, 0x01, 0x03], .encSetDataBitsLow 0x01 0x03),
     ([0xAD, 0x01, 0x03], .encSetDataBitsHigh 0x01 0x03),
     ([0xAE], .encReadDataBitsLow),
     ([0xAF], .encReadDataBitsHigh),
     ([0xB0, 0x00, 0x00, 0x00], .encBytesOutPlusMsb [] none none),
     ([0xB1, 0x04, 0xDE, 0xAD, 0xBE, 0xEF, 0x02, 0x03], .encBytesOutMinusMsb [0xDE, 0xAD, 0xBE, 0xEF] (some 1) (some 2)),
     ([0xB2, 0x00, 0x00, 0x00], .encBytesOutPlusLsb [] none none),
     ([0xB3, 0x04, 0xDE, 0xAD, 0xBE, 0xEF, 0x02, 0x03], .encBytesOutMinusLsb [0xDE, 0xAD, 0xBE, 0xEF] (some 1) (some 2)),
     ([0xB4, 0x80, 0x02], .encBytesInPlusMsb 256),
     ([0xB5, 0x80, 0x02], .encBytesInMinusMsb 256),
     ([0xB6, 0x80, 0x02], .encBytesInPlusLsb 256),
     ([0xB7, 0x80, 0x02], .encBytesInMinusLsb 256),
     ([0xB8, 0x00, 0x00, 0x00], .encBytesInPlusOutMinusMsb [] none none),
     ([0xB9, 0x04, 0xDE, 0xAD, 0xBE, 0xEF, 0x02, 0x03], .encBytesInMinusOutPlusMsb [0xDE, 0xAD, 0xBE, 0xEF] (some 1) (some 2)),
     ([0xBA, 0x00, 0x00, 0x00], .encBytesInPlusOutMinusLsb [] none none),
     ([0xBB, 0x04, 0xDE, 0xAD, 0xBE, 0xEF, 0x02, 0x03], .encBytesInMinusOutPlusLsb [0xDE, 0xAD, 0xBE, 0xEF] (some 1) (some 2)),
     ([0xBC, 0xA5, 0x09], .encBitsOutPlusMsb 0xA5 9),
     ([0xBD, 0xA5, 0x09], .encBitsOutMinusMsb 0xA5 9),
     ([0xBE, 0xA5, 0x09], .encBitsOutPlusLsb 0xA5 9),
     ([0xBF, 0xA5, 0x09], .encBitsOutMinusLsb 0xA5 9),
     ([0xC0, 0x00], .encBitsInPlusMsb 0),
     ([0xC1, 0x00], .encBitsInMinusMsb 0),
     ([0xC2, 0x00], .encBitsInPlusLsb 0),
     ([0xC3, 0x00], .encBitsInMinusLsb 0),
     ([0xC4, 0xA5, 0x09], .encBitsInPlusOutMinusMsb 0xA5 9),
     ([0xC5, 0xA5, 0x09], .encBitsInMinusOutPlusMsb 0xA5 9),
     ([0xC6, 0xA5, 0x09], .encBitsInPlusOutMinusLsb 0xA5 9),
     ([0xC7, 0xA5, 0x09], .encBitsInMinusOutPlusLsb 0xA5 9)
    ].all isWord = true := by decide +kernel

/-- I2C, SPI, DC and XP requests: select codes of R104, operands in the layout of log 1. -/
theorem test_decode_unit_requests :
    [([0xD0, 0x2B, 0x01, 0x01, 0x02, 0x03, 0x04, 0x05], Instr.i2cInit 0x012B 1 2 3 4 5),
     ([0xD1, 0xFF, 0x01, 0x02, 0x03, 0x04, 0x05], .i2cSetTiming 255 2 3 4 5),
     ([0xD2], .i2cStart),
     ([0xD3], .i2cStop),
     ([0xD4, 0xA0], .i2cSendByte 0xA0),
     ([0xD5, 0x50, 0x01], .i2cSendAddress 0x50 .one),
     ([0xD6, 0x01], .i2cReceiveByte true),
     ([0xD7], .i2cScan),
     ([0xD8, 0x50, 0x10, 0x02, 0xAB, 0xCD], .i2cWrite 0x50 0x10 [0xAB, 0xCD]),
     ([0xD9, 0x50, 0x10, 0x02], .i2cRead 0x50 0x10 2),
     ([0xDA, 0x7F, 0x10, 0x00], .i2cFastWrite 0x7F 0x10 []),
     ([0xDB, 0x50, 0x10, 0x00], .i2cFastRead 0x50 0x10 0),
     ([0xE0, 0x02, 0x01, 0x10, 0x01, 0x21, 0x20], .spiInit .mode2 .lsbFirst 0x10 .activeHigh 0x21 0x20),
     ([0xE1, 0x01], .spiSetCsLevel .one),
     ([0xE2], .spiEnable),
     ([0xE3], .spiDisable),
     ([0xE4, 0x02, 0xDE, 0xAD], .spiWrite [0xDE, 0xAD]),
     ([0xE5, 0x02, 0x9F, 0x00], .spiTransfer [0x9F, 0x00]),
     ([0xE8, 0x00, 0x00, 0x08, 0x03, 0x11, 0x12, 0x01, 0x02, 0x13, 0x14], .dcInit .mode0 .msbFirst 0x08 .defaultHigh 0x11 0x12 0x01 0x02 0x13 0x14),
     ([0xE9, 0x01], .dcSetDcLevel true),
     ([0xEA, 0x01, 0xAF, 0x01], .dcWrite [0xAF] true),
     ([0xEB, 0x02, 0x04, 0x00, 0x00], .dcTransfer [0x04, 0x00] false),
     ([0xEC, 0x02, 0xAF, 0x80], .dcCommandStream [0xAF, 0x80]),
     ([0xED], .dcResetDance),
     ([0xEE, 0x0A, 0x00, 0x00, 0x00, 0x78, 0x56, 0x34, 0x12], .dcResetTimed 10 0x12345678),
     ([0xF0, 0x02, 0x81, 0x87], .xpEnqueue [0x81, 0x87]),
     ([0xF1], .xpExecute),
     ([0xF2, 0x02], .xpRead 2),
     ([0xF3], .xpClearInput),
     ([0xF4], .xpClearOutput),
     ([0xF5, 0x1D, 0x00], .xpSetClockDivisor 0x001D),
     ([0xF6, 0x01], .xpSetLoopback true)
    ].all isWord = true := by decide +kernel

/-- Reserved codes are refused by name (R104, U1); bytes that end inside an instruction, and operand bytes that hold no
value of their type, too (log 1). -/
theorem test_decode_refuses :
    (refusedAs [0x00] (.reservedCode 0x00) && refusedAs [0xF7, 1] (.reservedCode 0xF7) &&
     refusedAs [0xC8] (.reservedCode 0xC8) && refusedAs [0xDC] (.reservedCode 0xDC) &&
     refusedAs [0xFF] (.reservedCode 0xFF) && refusedAs [] .truncated && noCommandAs [0x86, 0x2B] .truncated &&
     noCommandAs [0x11, 0x01, 0x00, 0xDE] .truncated && refusedAs [0xE4, 0x02, 0xDE] .truncated &&
     refusedAs [0xF2, 0x80] .truncated && noCommandAs [0x22, 0x08] .malformed && refusedAs [0xD5, 0x80, 0x00] .malformed &&
     refusedAs [0xE1, 0x02] .malformed && refusedAs [0xF6, 0x02] .malformed &&
     refusedAs [0xE0, 0x01, 0, 8, 0, 0, 0] .malformed && refusedAs [0xE0, 0, 0, 8, 4, 0, 0] .malformed &&
     refusedAs [0xF2, 0x80, 0x00] .malformed) = true := by decide +kernel

/-- The codes of the request port are the 72 of R104, and no engine opcode of R97 is one; the function interface takes
the 40 opcodes of R97, and no select code. -/
theorem test_codes_of_each_port :
    ((List.range 256).all fun n => (Op.ofCode (BitVec.ofNat 8 n)).isSome ==
      (decide (0xA0 ≤ n ∧ n ≤ 0xC7) || decide (0xD0 ≤ n ∧ n ≤ 0xDB) || decide (0xE0 ≤ n ∧ n ≤ 0xE5) ||
       decide (0xE8 ≤ n ∧ n ≤ 0xEE) || decide (0xF0 ≤ n ∧ n ≤ 0xF6))) = true ∧
    (Cmd.all.all fun c => refusedAs [c.defaultOpc] (.reservedCode c.defaultOpc)) = true ∧
    (Op.requests.all fun o => noCommandAs [o.code] (.unknownOpcode o.code)) = true := by decide +kernel

/-- What follows an instruction is left for the next one (R8). -/
theorem test_decode_leaves_the_rest :
    (match decodeRequest [0xE2, 0xE3, 0xF1] with
     | .ok (.spiEnable, [0xE3, 0xF1]) => true
     | _ => false) = true := by decide +kernel

/-- The opcode bits of the 24 transfer commands (R97): bit 0 out on the falling edge, bit 1 bit mode, bit 2 in on the
falling edge, bit 3 LSB first, bit 4 out, bit 5 in. -/
theorem test_opcode_bit_scheme :
    Cmd.all.all (fun c => match transferOf c with
      | none => true
      | some x => c.defaultOpc == schemeOpcode x) = true := by decide +kernel

/-- The words of the opcode table are read through the host's entry as the rows they stand for. -/
theorem test_decodeTableWord :
    (decodeTableWord 8 0x8A == some .clkDiv5Disable && decodeTableWord 24 0x012B86 == some (.setClockDivisor 0x012B) &&
     decodeTableWord 8 0x10 == some (.bytesOutPlusMsb [0] none none) && decodeTableWord 8 0xD3 == some .i2cStop &&
     decodeTableWord 8 0xE4 == some (.spiWrite []) && decodeTableWord 8 0x00 == none) = true := by decide +kernel

/-! ## Small states -/

/-- A transport call that succeeds, with the response bytes it brings. -/
def ok (bs : Bytes) : Answer := ⟨true, bs⟩

/-- A transport call that fails; the bytes are what is left of the buffer concerned. -/
def lost (bs : Bytes) : Answer := ⟨false, bs⟩

/-- After I2C.Init with all counts 1 and DC.Init(Mode0, MsbFirst, 0x08, ActiveLow, 0, 0, 0x01, 0x02, 0, 0), with nothing
on the wire yet, and the answers the environment will give. -/
def unit (script : List Answer) : State :=
  { State.reset with
    script := script
    i2c.ready := true
    i2c.tStart1 := 1
    i2c.tStart2 := 1
    i2c.tStop1 := 1
    i2c.tStop2 := 1
    i2c.tStop3 := 1
    spi.ready := true
    spi.csPin := 0x08
    spi.csLevel := .one
    dc.present := true
    dc.dcPin := 0x01
    dc.rstPin := 0x02
    dc.dcLevel := .one }

/-- The same with an I2C transaction open. -/
def started (script : List Answer) : State := { unit script with i2c.fsm := .started }

/-- The instruction answers a next state of which this holds. -/
def gives (i : Instr) (s : State) (p : State → Bool) : Bool :=
  match exec i s with
  | .next t => p t
  | _ => false

/-- The instruction is refused with this reason. -/
def refuses (i : Instr) (s : State) (r : Refusal) : Bool :=
  match exec i s with
  | .refused r' => r' == r
  | _ => false

/-- The response, what was delivered, and what awaits delivery. -/
def shows (r : Response) (wire cb : Bytes) (t : State) : Bool := t.resp == r && t.xp.wire == wire && t.xp.cb == cb

/-! ## ENC: vectors V1 to V4 -/

/-- The function forms of V1 to V4. -/
theorem test_command_functions :
    (gives (.setClockDivisor 0x00C7) (unit []) (shows (.ok (.bytes [0x86, 0xC7, 0x00])) [] []) &&
     gives (.setClockDivisor 0xFFFF) (unit []) (shows (.ok (.bytes [0x86, 0xFF, 0xFF])) [] []) &&
     gives (.clkDiv5Disable) (unit []) (shows (.ok (.bytes [0x8A])) [] []) &&
     gives (.clkDiv5Enable) (unit []) (shows (.ok (.bytes [0x8B])) [] []) &&
     gives (.threePhaseEnable) (unit []) (shows (.ok (.bytes [0x8C])) [] []) &&
     gives (.threePhaseDisable) (unit []) (shows (.ok (.bytes [0x8D])) [] []) &&
     gives (.adaptiveEnable) (unit []) (shows (.ok (.bytes [0x96])) [] []) &&
     gives (.adaptiveDisable) (unit []) (shows (.ok (.bytes [0x97])) [] []) &&
     gives (.loopbackConnect) (unit []) (shows (.ok (.bytes [0x84])) [] []) &&
     gives (.loopbackDisconnect) (unit []) (shows (.ok (.bytes [0x85])) [] []) &&
     gives (.sendImmediate) (unit []) (shows (.ok (.bytes [0x87])) [] []) &&
     gives (.waitOnHigh) (unit []) (shows (.ok (.bytes [0x88])) [] []) &&
     gives (.waitOnLow) (unit []) (shows (.ok (.bytes [0x89])) [] []) &&
     gives (.readDataBitsLow) (unit []) (shows (.ok (.bytes [0x81])) [] []) &&
     gives (.readDataBitsHigh) (unit []) (shows (.ok (.bytes [0x83])) [] []) &&
     gives (.setDataBitsLow 0xFF 0x00) (unit []) (shows (.ok (.bytes [0x80, 0xFF, 0x00])) [] []) &&
     gives (.setDataBitsHigh 0x01 0x03) (unit []) (shows (.ok (.bytes [0x82, 0x01, 0x03])) [] []) &&
     gives (.bytesOutMinusMsb [0xDE, 0xAD, 0xBE, 0xEF] (some 0) (some 4)) (unit []) (shows (.ok (.bytes [0x11, 0x03, 0x00, 0xDE, 0xAD, 0xBE, 0xEF])) [] []) &&
     gives (.bytesOutMinusMsb [0xDE, 0xAD, 0xBE, 0xEF] (some 1) (some 2)) (unit []) (shows (.ok (.bytes [0x11, 0x01, 0x00, 0xAD, 0xBE])) [] []) &&
     gives (.bytesOutMinusMsb [0xDE, 0xAD, 0xBE, 0xEF] (some 3) none) (unit []) (shows (.ok (.bytes [0x11, 0x00, 0x00, 0xEF])) [] []) &&
     gives (.bytesOutMinusMsb [0xDE, 0xAD, 0xBE, 0xEF] (some 3) (some 2)) (unit []) (shows (.error .invalidArgument) [] []) &&
     gives (.bytesOutMinusMsb [0xDE, 0xAD, 0xBE, 0xEF] (some 4) none) (unit []) (shows (.error .invalidArgument) [] []) &&
     gives (.bytesOutMinusMsb [0xDE, 0xAD, 0xBE, 0xEF] (some 5) none) (unit []) (shows (.error .invalidArgument) [] []) &&
     gives (.bytesOutPlusMsb [0x5A] none none) (unit []) (shows (.ok (.bytes [0x10, 0x00, 0x00, 0x5A])) [] []) &&
     gives (.bytesOutPlusLsb [0x01] none none) (unit []) (shows (.ok (.bytes [0x18, 0x00, 0x00, 0x01])) [] []) &&
     gives (.bytesOutMinusLsb [0x01, 0x02] none none) (unit []) (shows (.ok (.bytes [0x19, 0x01, 0x00, 0x01, 0x02])) [] []) &&
     gives (.bytesInPlusMsb 256) (unit []) (shows (.ok (.bytes [0x20, 0xFF, 0x00])) [] []) &&
     gives (.bytesInPlusMsb 65536) (unit []) (shows (.ok (.bytes [0x20, 0xFF, 0xFF])) [] []) &&
     gives (.bytesInMinusLsb 4660) (unit []) (shows (.ok (.bytes [0x2C, 0x33, 0x12])) [] []) &&
     gives (.bytesInPlusLsb 1) (unit []) (shows (.ok (.bytes [0x28, 0x00, 0x00])) [] []) &&
     gives (.bytesInMinusMsb 0) (unit []) (shows (.error .invalidArgument) [] []) &&
     gives (.bytesInPlusLsb 65537) (unit []) (shows (.error .invalidArgument) [] []) &&
     gives (.bytesInPlusOutMinusMsb [0x9F, 0x00] none none) (unit []) (shows (.ok (.bytes [0x31, 0x01, 0x00, 0x9F, 0x00])) [] []) &&
     gives (.bytesInMinusOutPlusMsb [0x9F, 0x00] none none) (unit []) (shows (.ok (.bytes [0x34, 0x01, 0x00, 0x9F, 0x00])) [] []) &&
     gives (.bytesInPlusOutMinusLsb [0x55] none none) (unit []) (shows (.ok (.bytes [0x39, 0x00, 0x00, 0x55])) [] []) &&
     gives (.bytesInMinusOutPlusLsb [0x55] none none) (unit []) (shows (.ok (.bytes [0x3C, 0x00, 0x00, 0x55])) [] []) &&
     gives (.bitsOutMinusMsb 0xFF 1) (unit []) (shows (.ok (.bytes [0x13, 0x00, 0xFF])) [] []) &&
     gives (.bitsOutPlusLsb 0xA5 8) (unit []) (shows (.ok (.bytes [0x1A, 0x07, 0xA5])) [] []) &&
     gives (.bitsOutPlusMsb 0x80 4) (unit []) (shows (.ok (.bytes [0x12, 0x03, 0x80])) [] []) &&
     gives (.bitsOutMinusLsb 0x01 2) (unit []) (shows (.ok (.bytes [0x1B, 0x01, 0x01])) [] []) &&
     gives (.bitsInPlusMsb 1) (unit []) (shows (.ok (.bytes [0x22, 0x00])) [] []) &&
     gives (.bitsInPlusMsb 8) (unit []) (shows (.ok (.bytes [0x22, 0x07])) [] []) &&
     gives (.bitsInMinusLsb 5) (unit []) (shows (.ok (.bytes [0x2E, 0x04])) [] []) &&
     gives (.bitsInMinusMsb 3) (unit []) (shows (.ok (.bytes [0x26, 0x02])) [] []) &&
     gives (.bitsInPlusLsb 3) (unit []) (shows (.ok (.bytes [0x2A, 0x02])) [] []) &&
     gives (.bitsInPlusOutMinusMsb 0x80 3) (unit []) (shows (.ok (.bytes [0x33, 0x02, 0x80])) [] []) &&
     gives (.bitsInMinusOutPlusMsb 0x80 3) (unit []) (shows (.ok (.bytes [0x36, 0x02, 0x80])) [] []) &&
     gives (.bitsInPlusOutMinusLsb 0x80 3) (unit []) (shows (.ok (.bytes [0x3B, 0x02, 0x80])) [] []) &&
     gives (.bitsInMinusOutPlusLsb 0x80 3) (unit []) (shows (.ok (.bytes [0x3E, 0x02, 0x80])) [] []) &&
     gives (.bitsOutPlusMsb 1 0) (unit []) (shows (.error .invalidArgument) [] []) &&
     gives (.bitsInPlusMsb 9) (unit []) (shows (.error .invalidArgument) [] []) &&
     gives (.bitsInPlusOutMinusMsb 1 9) (unit []) (shows (.error .invalidArgument) [] [])) = true := by decide +kernel

/-- The start of the request form of V4: `CB = [AA]`, no unit initialised. -/
def holding : State := { State.reset with xp.cb := [0xAA] }

/-- The request forms (R124): appended to `CB`, or InvalidArgument and `CB` as it was (V4). -/
theorem test_enc_requests :
    (gives (.encSetClockDivisor 0x012B) holding (shows (.ok .unit) [] [0xAA, 0x86, 0x2B, 0x01]) &&
     gives (.encClkDiv5Disable) holding (shows (.ok .unit) [] [0xAA, 0x8A]) &&
     gives (.encClkDiv5Enable) holding (shows (.ok .unit) [] [0xAA, 0x8B]) &&
     gives (.encThreePhaseEnable) holding (shows (.ok .unit) [] [0xAA, 0x8C]) &&
     gives (.encThreePhaseDisable) holding (shows (.ok .unit) [] [0xAA, 0x8D]) &&
     gives (.encAdaptiveEnable) holding (shows (.ok .unit) [] [0xAA, 0x96]) &&
     gives (.encAdaptiveDisable) holding (shows (.ok .unit) [] [0xAA, 0x97]) &&
     gives (.encLoopbackConnect) holding (shows (.ok .unit) [] [0xAA, 0x84]) &&
     gives (.encLoopbackDisconnect) holding (shows (.ok .unit) [] [0xAA, 0x85]) &&
     gives (.encSendImmediate) holding (shows (.ok .unit) [] [0xAA, 0x87]) &&
     gives (.encWaitOnHigh) holding (shows (.ok .unit) [] [0xAA, 0x88]) &&
     gives (.encWaitOnLow) holding (shows (.ok .unit) [] [0xAA, 0x89]) &&
     gives (.encReadDataBitsLow) holding (shows (.ok .unit) [] [0xAA, 0x81]) &&
     gives (.encReadDataBitsHigh) holding (shows (.ok .unit) [] [0xAA, 0x83]) &&
     gives (.encSetDataBitsLow 0x08 0x0B) holding (shows (.ok .unit) [] [0xAA, 0x80, 0x08, 0x0B]) &&
     gives (.encSetDataBitsHigh 0x01 0x03) holding (shows (.ok .unit) [] [0xAA, 0x82, 0x01, 0x03]) &&
     gives (.encBytesOutPlusMsb [0xDE, 0xAD, 0xBE, 0xEF] (some 1) (some 2)) holding (shows (.ok .unit) [] [0xAA, 0x10, 0x01, 0x00, 0xAD, 0xBE]) &&
     gives (.encBytesOutMinusMsb [0xDE, 0xAD, 0xBE, 0xEF] (some 1) (some 2)) holding (shows (.ok .unit) [] [0xAA, 0x11, 0x01, 0x00, 0xAD, 0xBE]) &&
     gives (.encBytesOutPlusLsb [0xDE, 0xAD, 0xBE, 0xEF] (some 1) (some 2)) holding (shows (.ok .unit) [] [0xAA, 0x18, 0x01, 0x00, 0xAD, 0xBE]) &&
     gives (.encBytesOutMinusLsb [0xDE, 0xAD, 0xBE, 0xEF] (some 1) (some 2)) holding (shows (.ok .unit) [] [0xAA, 0x19, 0x01, 0x00, 0xAD, 0xBE]) &&
     gives (.encBytesInPlusOutMinusMsb [0xDE, 0xAD, 0xBE, 0xEF] (some 1) (some 2)) holding (shows (.ok .unit) [] [0xAA, 0x31, 0x01, 0x00, 0xAD, 0xBE]) &&
     gives (.encBytesInMinusOutPlusMsb [0xDE, 0xAD, 0xBE, 0xEF] (some 1) (some 2)) holding (shows (.ok .unit) [] [0xAA, 0x34, 0x01, 0x00, 0xAD, 0xBE]) &&
     gives (.encBytesInPlusOutMinusLsb [0xDE, 0xAD, 0xBE, 0xEF] (some 1) (some 2)) holding (shows (.ok .unit) [] [0xAA, 0x39, 0x01, 0x00, 0xAD, 0xBE]) &&
     gives (.encBytesInMinusOutPlusLsb [0xDE, 0xAD, 0xBE, 0xEF] (some 1) (some 2)) holding (shows (.ok .unit) [] [0xAA, 0x3C, 0x01, 0x00, 0xAD, 0xBE]) &&
     gives (.encBytesInPlusMsb 300) holding (shows (.ok .unit) [] [0xAA, 0x20, 0x2B, 0x01]) &&
     gives (.encBytesInMinusMsb 300) holding (shows (.ok .unit) [] [0xAA, 0x24, 0x2B, 0x01]) &&
     gives (.encBytesInPlusLsb 300) holding (shows (.ok .unit) [] [0xAA, 0x28, 0x2B, 0x01]) &&
     gives (.encBytesInMinusLsb 300) holding (shows (.ok .unit) [] [0xAA, 0x2C, 0x2B, 0x01]) &&
     gives (.encBitsOutPlusMsb 0xA5 8) holding (shows (.ok .unit) [] [0xAA, 0x12, 0x07, 0xA5]) &&
     gives (.encBitsOutMinusMsb 0xA5 8) holding (shows (.ok .unit) [] [0xAA, 0x13, 0x07, 0xA5]) &&
     gives (.encBitsOutPlusLsb 0xA5 8) holding (shows (.ok .unit) [] [0xAA, 0x1A, 0x07, 0xA5]) &&
     gives (.encBitsOutMinusLsb 0xA5 8) holding (shows (.ok .unit) [] [0xAA, 0x1B, 0x07, 0xA5]) &&
     gives (.encBitsInPlusOutMinusMsb 0xA5 8) holding (shows (.ok .unit) [] [0xAA, 0x33, 0x07, 0xA5]) &&
     gives (.encBitsInMinusOutPlusMsb 0xA5 8) holding (shows (.ok .unit) [] [0xAA, 0x36, 0x07, 0xA5]) &&
     gives (.encBitsInPlusOutMinusLsb 0xA5 8) holding (shows (.ok .unit) [] [0xAA, 0x3B, 0x07, 0xA5]) &&
     gives (.encBitsInMinusOutPlusLsb 0xA5 8) holding (shows (.ok .unit) [] [0xAA, 0x3E, 0x07, 0xA5]) &&
     gives (.encBitsInPlusMsb 5) holding (shows (.ok .unit) [] [0xAA, 0x22, 0x04]) &&
     gives (.encBitsInMinusMsb 5) holding (shows (.ok .unit) [] [0xAA, 0x26, 0x04]) &&
     gives (.encBitsInPlusLsb 5) holding (shows (.ok .unit) [] [0xAA, 0x2A, 0x04]) &&
     gives (.encBitsInMinusLsb 5) holding (shows (.ok .unit) [] [0xAA, 0x2E, 0x04]) &&
     gives (.encBitsInPlusMsb 9) holding (shows (.error .invalidArgument) [] [0xAA]) &&
     gives (.encBytesInMinusMsb 0) holding (shows (.error .invalidArgument) [] [0xAA]) &&
     gives (.encBytesOutPlusMsb [] none none) holding (shows (.error .invalidArgument) [] [0xAA]) &&
     gives (.encBytesOutMinusMsb [0xDE, 0xAD, 0xBE, 0xEF] (some 3) (some 2)) holding (shows (.error .invalidArgument) [] [0xAA])) = true := by decide +kernel

/-! ## I2C: vectors V5 to V7, programs P1 and P2 -/

/-- I2C.Init (V5) and its bad counts; I2C.SetTiming. -/
theorem test_i2c_init :
    (gives (.i2cInit 0x012B 1 2 3 4 5) ({ State.reset with script := [ok []] })
       (fun t => shows (.ok .unit) [0x8A, 0x97, 0x8C, 0x86, 0x2B, 0x01, 0x85, 0x80, 0x00, 0x00] [] t && t.i2c.ready && t.i2c.fsm == .idle && t.i2c.clkdiv == 0x012B && t.i2c.tStart1 == 1 && t.i2c.tStart2 == 2 && t.i2c.tStop1 == 3 && t.i2c.tStop2 == 4 && t.i2c.tStop3 == 5) &&
     gives (.i2cInit 0x012B 1 1 1 1 1) (started [lost [0x01]])
       (fun t => shows (.error .transportFailure) [] [0x01] t && !t.i2c.ready && t.i2c.fsm == .idle) &&
     gives (.i2cInit 0x012B 1 1 0 1 1) (started [])
       (fun t => t == { started [] with resp := .error .invalidArgument }) &&
     gives (.i2cInit 0x012B 1 1 1 1 256) (started [])
       (fun t => t == { started [] with resp := .error .invalidArgument }) &&
     gives (.i2cSetTiming 5 4 3 2 255) (unit [])
       (fun t => t.i2c.tStart1 == 5 && t.i2c.tStop2 == 2 && t.i2c.tStop3 == 255 && t.resp == .ok .unit) &&
     gives (.i2cSetTiming 5 4 3 2 256) (unit [])
       (fun t => t == { unit [] with resp := .error .invalidArgument })) = true := by decide +kernel

/-- `I2C_START_SEQ` with counts 2 and 3, `I2C_STOP_SEQ` with counts 1, 2 and 3, and 27 bytes with counts 4 (V5). -/
theorem test_i2c_timing_counts :
    (i2cStartSeq { unit [] with i2c.tStart1 := 2, i2c.tStart2 := 3 } ==
      [0x80, 0x00, 0x00, 0x80, 0x00, 0x00, 0x80, 0x00, 0x02, 0x80, 0x00, 0x02, 0x80, 0x00, 0x02, 0x80, 0x00, 0x03] &&
     i2cStopSeq { unit [] with i2c.tStop1 := 1, i2c.tStop2 := 2, i2c.tStop3 := 3 } ==
      [0x80, 0x00, 0x03, 0x80, 0x00, 0x02, 0x80, 0x00, 0x02, 0x80, 0x00, 0x00, 0x80, 0x00, 0x00, 0x80, 0x00, 0x00] &&
     (i2cStartSeq State.reset).length == 27) = true := by decide +kernel

/-- I2C.Start, SendByte, SendAddress, ReceiveByte and Stop (V6, P2). -/
theorem test_i2c_primitives :
    (gives (.i2cStart) (unit [])
       (fun t => shows (.ok .unit) [] [0x80, 0x00, 0x00, 0x80, 0x00, 0x02, 0x80, 0x00, 0x03] t && t.i2c.fsm == .started) &&
     gives (.i2cStart) ({ unit [] with i2c.fsm := .byteIn })
       (fun t => shows (.ok .unit) [] [0x80, 0x00, 0x00, 0x80, 0x00, 0x02, 0x80, 0x00, 0x03] t && t.i2c.fsm == .started) &&
     gives (.i2cSendByte 0xA0) (started [ok [0xFE], ok []])
       (fun t => shows (.ok (.bool true)) [0x80, 0x00, 0x03, 0x11, 0x00, 0x00, 0xA0, 0x80, 0x00, 0x01, 0x22, 0x00, 0x87] [] t && t.i2c.fsm == .byteOut && t.xp.rxq == []) &&
     gives (.i2cSendByte 0xA0) (started [ok [0x01], ok []])
       (fun t => shows (.ok (.bool false)) [0x80, 0x00, 0x03, 0x11, 0x00, 0x00, 0xA0, 0x80, 0x00, 0x01, 0x22, 0x00, 0x87] [] t && t.i2c.fsm == .byteOut) &&
     gives (.i2cSendAddress 0x50 .one) (started [ok [0x00], ok []])
       (fun t => shows (.ok (.bool true)) [0x80, 0x00, 0x03, 0x11, 0x00, 0x00, 0xA1, 0x80, 0x00, 0x01, 0x22, 0x00, 0x87] [] t) &&
     gives (.i2cReceiveByte true) ({ unit [ok [0x12], ok []] with i2c.fsm := .byteOut })
       (fun t => shows (.ok (.byte 0x12)) [0x80, 0x00, 0x01, 0x20, 0x00, 0x00, 0x80, 0x00, 0x03, 0x13, 0x00, 0x00, 0x87] [] t && t.i2c.fsm == .byteIn) &&
     gives (.i2cReceiveByte false) ({ unit [ok [0x34], ok []] with i2c.fsm := .byteIn })
       (fun t => shows (.ok (.byte 0x34)) [0x80, 0x00, 0x01, 0x20, 0x00, 0x00, 0x80, 0x00, 0x03, 0x13, 0x00, 0xFF, 0x87] [] t && t.i2c.fsm == .byteIn) &&
     gives (.i2cStop) ({ unit [ok []] with i2c.fsm := .byteIn })
       (fun t => shows (.ok .unit) [0x80, 0x00, 0x03, 0x80, 0x00, 0x02, 0x80, 0x00, 0x00] [] t && t.i2c.fsm == .idle)) = true := by decide +kernel

/-- A failed flush, a failed read, a failed STOP (V15, R205); stale bytes in `RXQ` are taken first (R339, P5). -/
theorem test_i2c_failures :
    (gives (.i2cSendByte 0xA0) (started [lost [0x77]])
       (fun t => shows (.error .transportFailure) [] [0x77] t && t.i2c.fsm == .idle) &&
     gives (.i2cSendByte 0xA0) (started [ok [0x00], lost []])
       (fun t => shows (.error .transportFailure) [0x80, 0x00, 0x03, 0x11, 0x00, 0x00, 0xA0, 0x80, 0x00, 0x01, 0x22, 0x00, 0x87] [] t && t.i2c.fsm == .idle) &&
     gives (.i2cStop) (started [lost []])
       (fun t => shows (.error .transportFailure) [] [] t && t.i2c.fsm == .idle) &&
     gives (.i2cSendByte 0xA0) ({ started [ok [0x00], ok []] with xp.rxq := [0xFF] })
       (fun t => shows (.ok (.bool false)) [0x80, 0x00, 0x03, 0x11, 0x00, 0x00, 0xA0, 0x80, 0x00, 0x01, 0x22, 0x00, 0x87] [] t && t.xp.rxq == [0x00])) = true := by decide +kernel

/-- I2C.Write: all bytes acknowledged; P1, the data byte not acknowledged; the address not acknowledged; the STOP lost (V15). -/
theorem test_i2c_write :
    (gives (.i2cWrite 0x50 0x10 [0xAB]) (unit [ok [0x00], ok [], ok [0x00], ok [], ok [0x00], ok [], ok []])
       (fun t => shows (.ok .unit) [0x80, 0x00, 0x00, 0x80, 0x00, 0x02, 0x80, 0x00, 0x03, 0x80, 0x00, 0x03, 0x11, 0x00, 0x00, 0xA0, 0x80, 0x00, 0x01, 0x22, 0x00, 0x87, 0x80, 0x00, 0x03, 0x11, 0x00, 0x00, 0x10, 0x80, 0x00, 0x01, 0x22, 0x00, 0x87, 0x80, 0x00, 0x03, 0x11, 0x00, 0x00, 0xAB, 0x80, 0x00, 0x01, 0x22, 0x00, 0x87, 0x80, 0x00, 0x03, 0x80, 0x00, 0x02, 0x80, 0x00, 0x00] [] t && t.i2c.fsm == .idle) &&
     gives (.i2cWrite 0x50 0x10 [0xAB, 0xCD]) (unit [ok [0x00], ok [], ok [0x00], ok [], ok [0x01], ok [], ok []])
       (fun t => shows (.error (.protocolNack 2)) [0x80, 0x00, 0x00, 0x80, 0x00, 0x02, 0x80, 0x00, 0x03, 0x80, 0x00, 0x03, 0x11, 0x00, 0x00, 0xA0, 0x80, 0x00, 0x01, 0x22, 0x00, 0x87, 0x80, 0x00, 0x03, 0x11, 0x00, 0x00, 0x10, 0x80, 0x00, 0x01, 0x22, 0x00, 0x87, 0x80, 0x00, 0x03, 0x11, 0x00, 0x00, 0xAB, 0x80, 0x00, 0x01, 0x22, 0x00, 0x87, 0x80, 0x00, 0x03, 0x80, 0x00, 0x02, 0x80, 0x00, 0x00] [] t && t.i2c.fsm == .idle && t.xp.rxq == []) &&
     gives (.i2cWrite 0x50 0x10 [0xAB]) (unit [ok [0x01], ok [], ok []])
       (fun t => shows (.error (.protocolNack 0)) [0x80, 0x00, 0x00, 0x80, 0x00, 0x02, 0x80, 0x00, 0x03, 0x80, 0x00, 0x03, 0x11, 0x00, 0x00, 0xA0, 0x80, 0x00, 0x01, 0x22, 0x00, 0x87, 0x80, 0x00, 0x03, 0x80, 0x00, 0x02, 0x80, 0x00, 0x00] [] t) &&
     gives (.i2cWrite 0x50 0x10 [0xAB]) (unit [ok [0x01], ok [], lost []])
       (fun t => t.resp == .error .transportFailure && t.i2c.fsm == .idle)) = true := by decide +kernel

/-- I2C.Read (P2) and its bad count (V15). -/
theorem test_i2c_read :
    (gives (.i2cRead 0x50 0x10 2) (unit [ok [0xFE], ok [], ok [0x00], ok [], ok [0x02], ok [], ok [0x12], ok [], ok [0x34], ok [], ok []])
       (fun t => shows (.ok (.bytes [0x12, 0x34])) [0x80, 0x00, 0x00, 0x80, 0x00, 0x02, 0x80, 0x00, 0x03, 0x80, 0x00, 0x03, 0x11, 0x00, 0x00, 0xA0, 0x80, 0x00, 0x01, 0x22, 0x00, 0x87, 0x80, 0x00, 0x03, 0x11, 0x00, 0x00, 0x10, 0x80, 0x00, 0x01, 0x22, 0x00, 0x87, 0x80, 0x00, 0x00, 0x80, 0x00, 0x02, 0x80, 0x00, 0x03, 0x80, 0x00, 0x03, 0x11, 0x00, 0x00, 0xA1, 0x80, 0x00, 0x01, 0x22, 0x00, 0x87, 0x80, 0x00, 0x01, 0x20, 0x00, 0x00, 0x80, 0x00, 0x03, 0x13, 0x00, 0x00, 0x87, 0x80, 0x00, 0x01, 0x20, 0x00, 0x00, 0x80, 0x00, 0x03, 0x13, 0x00, 0xFF, 0x87, 0x80, 0x00, 0x03, 0x80, 0x00, 0x02, 0x80, 0x00, 0x00] [] t && t.i2c.fsm == .idle && t.calls == 11) &&
     gives (.i2cRead 0x50 0x10 0) (unit [])
       (fun t => t == { unit [] with resp := .error .invalidArgument })) = true := by decide +kernel

/-- I2C.FastWrite and I2C.FastRead (P2, V15): one flush, one read, the lowest failing index, the data after the header. -/
theorem test_i2c_fast :
    (gives (.i2cFastWrite 0x50 0x10 [0xAB]) (unit [ok [0x00, 0x00, 0x01], ok []])
       (fun t => shows (.error (.protocolNack 2)) [0x80, 0x00, 0x00, 0x80, 0x00, 0x02, 0x80, 0x00, 0x03, 0x80, 0x00, 0x03, 0x11, 0x00, 0x00, 0xA0, 0x80, 0x00, 0x01, 0x22, 0x00, 0x80, 0x00, 0x03, 0x11, 0x00, 0x00, 0x10, 0x80, 0x00, 0x01, 0x22, 0x00, 0x80, 0x00, 0x03, 0x11, 0x00, 0x00, 0xAB, 0x80, 0x00, 0x01, 0x22, 0x00, 0x80, 0x00, 0x03, 0x80, 0x00, 0x02, 0x80, 0x00, 0x00, 0x87] [] t && t.i2c.fsm == .idle && t.xp.wire.length == 55) &&
     gives (.i2cFastWrite 0x50 0x10 []) (unit [ok [0x00, 0x02], ok []])
       (fun t => t.resp == .ok .unit && t.i2c.fsm == .idle) &&
     gives (.i2cFastRead 0x50 0x10 2) (unit [ok [0x00, 0x00, 0x00, 0x12, 0x34], ok []])
       (fun t => shows (.ok (.bytes [0x12, 0x34])) [0x80, 0x00, 0x00, 0x80, 0x00, 0x02, 0x80, 0x00, 0x03, 0x80, 0x00, 0x03, 0x11, 0x00, 0x00, 0xA0, 0x80, 0x00, 0x01, 0x22, 0x00, 0x80, 0x00, 0x03, 0x11, 0x00, 0x00, 0x10, 0x80, 0x00, 0x01, 0x22, 0x00, 0x80, 0x00, 0x00, 0x80, 0x00, 0x02, 0x80, 0x00, 0x03, 0x80, 0x00, 0x03, 0x11, 0x00, 0x00, 0xA1, 0x80, 0x00, 0x01, 0x22, 0x00, 0x80, 0x00, 0x01, 0x20, 0x00, 0x00, 0x80, 0x00, 0x03, 0x13, 0x00, 0x00, 0x80, 0x00, 0x01, 0x20, 0x00, 0x00, 0x80, 0x00, 0x03, 0x13, 0x00, 0xFF, 0x80, 0x00, 0x03, 0x80, 0x00, 0x02, 0x80, 0x00, 0x00, 0x87] [] t && t.xp.wire.length == 88 && t.calls == 2) &&
     gives (.i2cFastRead 0x50 0x10 2) (unit [ok [0x00, 0x00, 0x01, 0xFF, 0xFF], ok []])
       (fun t => t.resp == .error (.protocolNack 2))) = true := by decide +kernel

/-- A transport call that fails ends the scan without a list (V7). -/
theorem test_i2c_scan_stops_at_a_failure :
    (gives (.i2cScan) (unit [ok [0x00], ok [], ok [], lost []])
       (fun t => t.resp == .error .transportFailure && t.i2c.fsm == .idle)) = true := by decide +kernel

/-- Refused requests (R207, V15): not initialised, out of sequence. -/
theorem test_i2c_refusals :
    (refuses .i2cStart State.reset .i2cNotReady &&
     refuses .i2cScan State.reset .i2cNotReady &&
     refuses .i2cStop (unit []) (.i2cOutOfSequence .idle) &&
     refuses (.i2cSendAddress 0x50 .zero) { unit [] with i2c.fsm := .byteOut } (.i2cOutOfSequence .byteOut) &&
     refuses (.i2cWrite 0x50 0 []) (started []) (.i2cOutOfSequence .started)) = true := by decide +kernel

/-! ## SPI: vectors V8 to V10, program P3 -/

/-- SPI.Init (V9, V10): the level of each policy, the registers, the bad masks, a lost flush. -/
theorem test_spi_init :
    (gives (.spiInit .mode0 .msbFirst 0x08 .activeLow 0x00 0x00) ({ State.reset with script := [ok []] })
       (fun t => shows (.ok .unit) [0x80, 0x08, 0x0B] [] t && t.spi.ready && t.spi.csLevel == .one && !t.dc.present) &&
     gives (.spiInit .mode2 .lsbFirst 0x10 .activeHigh 0x21 0x20) (unit [ok []])
       (fun t => shows (.ok .unit) [0x80, 0x21, 0x33] [] t && t.spi.csLevel == .zero && !t.dc.present && t.spi.mode == .mode2 && t.spi.order == .lsbFirst) &&
     gives (.spiInit .mode0 .msbFirst 0x08 .defaultHigh 0x00 0x00) (unit [ok []])
       (fun t => shows (.ok .unit) [0x80, 0x08, 0x0B] [] t && t.spi.csLevel == .one) &&
     gives (.spiInit .mode0 .msbFirst 0x08 .defaultLow 0x00 0x00) (unit [ok []])
       (fun t => shows (.ok .unit) [0x80, 0x00, 0x0B] [] t && t.spi.csLevel == .zero) &&
     gives (.spiInit .mode0 .msbFirst 0x08 .activeLow 0x00 0x00) (unit [lost []])
       (fun t => t.resp == .error .transportFailure && !t.spi.ready && !t.dc.present) &&
     gives (.spiInit .mode0 .msbFirst 0x00 .activeLow 0x00 0x00) (unit [])
       (fun t => t == { unit [] with resp := .error .invalidArgument }) &&
     gives (.spiInit .mode0 .msbFirst 0x01 .activeLow 0x00 0x00) (unit [])
       (fun t => t == { unit [] with resp := .error .invalidArgument }) &&
     gives (.spiInit .mode0 .msbFirst 0x02 .activeLow 0x00 0x00) (unit [])
       (fun t => t == { unit [] with resp := .error .invalidArgument }) &&
     gives (.spiInit .mode0 .msbFirst 0x04 .activeLow 0x00 0x00) (unit [])
       (fun t => t == { unit [] with resp := .error .invalidArgument }) &&
     gives (.spiInit .mode0 .msbFirst 0x09 .activeLow 0x00 0x00) (unit [])
       (fun t => t == { unit [] with resp := .error .invalidArgument })) = true := by decide +kernel

/-- After SPI.Init(Mode2, LsbFirst, 0x10, ActiveHigh, 0x21, 0x20) (V9). -/
def lsb2 (script : List Answer) : State :=
  { unit script with
    spi.mode := .mode2
    spi.order := .lsbFirst
    spi.csPin := 0x10
    spi.policy := .activeHigh
    spi.lowVal := 0x21
    spi.lowDir := 0x20
    spi.csLevel := .zero }

/-- SPI.Write and SPI.Transfer (V8, V9): Mode0 and Mode2, the bracket, the result; a lost flush (V15). -/
theorem test_spi_transfers :
    (gives (.spiWrite [0xDE, 0xAD]) (unit [ok []])
       (fun t => shows (.ok .unit) [0x80, 0x00, 0x0B, 0x11, 0x01, 0x00, 0xDE, 0xAD, 0x80, 0x08, 0x0B] [] t && t.spi.csLevel == .one) &&
     gives (.spiTransfer [0x9F, 0x00]) (unit [ok [0x9F, 0x00], ok []])
       (fun t => shows (.ok (.bytes [0x9F, 0x00])) [0x80, 0x00, 0x0B, 0x31, 0x01, 0x00, 0x9F, 0x00, 0x80, 0x08, 0x0B] [] t && t.xp.rxq == []) &&
     gives (.spiWrite [0x01]) (lsb2 [ok []])
       (fun t => shows (.ok .unit) [0x80, 0x31, 0x33, 0x18, 0x00, 0x00, 0x01, 0x80, 0x21, 0x33] [] t && t.spi.csLevel == .zero) &&
     gives (.spiTransfer [0x55]) (lsb2 [ok [0xAA], ok []])
       (fun t => shows (.ok (.bytes [0xAA])) [0x80, 0x31, 0x33, 0x3C, 0x00, 0x00, 0x55, 0x80, 0x21, 0x33] [] t) &&
     gives (.spiWrite [0x42]) ({ unit [ok []] with spi.policy := .defaultHigh, spi.csLevel := .zero })
       (fun t => shows (.ok .unit) [0x11, 0x00, 0x00, 0x42] [] t && t.spi.csLevel == .zero) &&
     gives (.spiWrite [0xDE, 0xAD]) (unit [lost [0x01]])
       (fun t => shows (.error .transportFailure) [] [0x01] t && t.spi.csLevel == .one) &&
     gives (.spiWrite []) (unit [])
       (fun t => t == { unit [] with resp := .error .invalidArgument }) &&
     gives (.spiTransfer []) (unit [])
       (fun t => t == { unit [] with resp := .error .invalidArgument })) = true := by decide +kernel

/-- SPI.SetCsLevel, SPI.Enable and SPI.Disable (V9, V10): appended only; refused before Init (R248). -/
theorem test_spi_levels :
    (gives (.spiSetCsLevel .zero) (unit [])
       (fun t => shows (.ok .unit) [] [0x80, 0x00, 0x0B] t && t.spi.csLevel == .zero) &&
     gives (.spiEnable) (unit [])
       (fun t => shows (.ok .unit) [] [0x80, 0x00, 0x0B] t && t.spi.csLevel == .zero) &&
     gives (.spiDisable) (unit [])
       (fun t => shows (.ok .unit) [] [0x80, 0x08, 0x0B] t && t.spi.csLevel == .one) &&
     gives (.spiEnable) (lsb2 [])
       (fun t => shows (.ok .unit) [] [0x80, 0x31, 0x33] t && t.spi.csLevel == .one) &&
     gives (.spiDisable) ({ unit [] with spi.policy := .defaultLow })
       (fun t => shows (.ok .unit) [] [] t) &&
     refuses (.spiWrite [1]) State.reset .spiNotReady) = true := by decide +kernel

/-! ## DC: vectors V11 to V14, program P4 -/

/-- DC.Init (V11 to V14) and its bad masks. -/
theorem test_dc_init :
    (gives (.dcInit .mode0 .msbFirst 0x08 .activeLow 0x00 0x00 0x01 0x02 0x00 0x00) ({ State.reset with script := [ok []] })
       (fun t => shows (.ok .unit) [0x80, 0x08, 0x0B, 0x82, 0x03, 0x03] [] t && t.spi.ready && t.dc.present && t.spi.csLevel == .one && t.dc.dcLevel == .one) &&
     gives (.dcInit .mode0 .msbFirst 0x08 .activeLow 0x00 0x00 0x01 0x00 0x40 0xC0) (unit [ok []])
       (fun t => shows (.ok .unit) [0x80, 0x08, 0x0B, 0x82, 0x41, 0xC1] [] t) &&
     gives (.dcInit .mode0 .msbFirst 0x08 .activeLow 0x00 0x00 0x01 0x01 0x00 0x00) (unit [])
       (fun t => t == { unit [] with resp := .error .invalidArgument }) &&
     gives (.dcInit .mode0 .msbFirst 0x08 .activeLow 0x00 0x00 0x00 0x02 0x00 0x00) (unit [])
       (fun t => t == { unit [] with resp := .error .invalidArgument }) &&
     gives (.dcInit .mode0 .msbFirst 0x08 .activeLow 0x00 0x00 0x01 0x02 0x00 0x00) (unit [lost []])
       (fun t => t.resp == .error .transportFailure && !t.spi.ready && !t.dc.present)) = true := by decide +kernel

/-- DC.SetDcLevel, DC.Write and DC.Transfer (V12). -/
theorem test_dc_transfers :
    (gives (.dcWrite [0xAF] true) (unit [ok []])
       (fun t => shows (.ok .unit) [0x80, 0x00, 0x0B, 0x82, 0x02, 0x03, 0x11, 0x00, 0x00, 0xAF, 0x80, 0x08, 0x0B] [] t && t.dc.dcLevel == .zero && t.spi.csLevel == .one) &&
     gives (.dcWrite [0x12, 0x34] false) (unit [ok []])
       (fun t => shows (.ok .unit) [0x80, 0x00, 0x0B, 0x82, 0x03, 0x03, 0x11, 0x01, 0x00, 0x12, 0x34, 0x80, 0x08, 0x0B] [] t && t.dc.dcLevel == .one) &&
     gives (.dcTransfer [0x04, 0x00] true) (unit [ok [0x11, 0x22], ok []])
       (fun t => shows (.ok (.bytes [0x11, 0x22])) [0x80, 0x00, 0x0B, 0x82, 0x02, 0x03, 0x31, 0x01, 0x00, 0x04, 0x00, 0x80, 0x08, 0x0B] [] t && t.dc.dcLevel == .zero) &&
     gives (.dcWrite [] true) (unit [])
       (fun t => t == { unit [] with resp := .error .invalidArgument }) &&
     gives (.dcTransfer [] true) (unit [])
       (fun t => t == { unit [] with resp := .error .invalidArgument }) &&
     gives (.dcSetDcLevel true) (unit [])
       (fun t => shows (.ok .unit) [] [0x82, 0x02, 0x03] t && t.dc.dcLevel == .zero) &&
     refuses (.dcWrite [1] true) { unit [] with dc.present := false } .dcAbsent &&
     refuses .dcResetDance State.reset .spiNotReady) = true := by decide +kernel

/-- The chunk lengths of V11. -/
theorem test_dc_chunks :
    (dcChunks 1 == [(0, 1)] && dcChunks 65536 == [(0, 65536)] && dcChunks 65537 == [(0, 65535), (65535, 2)] &&
     dcChunks 131070 == [(0, 65535), (65535, 65535)] &&
     dcChunks 131071 == [(0, 65535), (65535, 65535), (131070, 1)] &&
     dcChunks 200000 == [(0, 65535), (65535, 65535), (131070, 65535), (196605, 3395)]) = true := by decide +kernel

/-- DC.CommandStream (V13). -/
theorem test_dc_command_stream :
    (gives (.dcCommandStream [0xAE, 0x00, 0x81, 0x01, 0x7F, 0xA8, 0x81, 0x3F]) (unit [ok []])
       (fun t => shows (.ok .unit) [0x80, 0x00, 0x0B, 0x82, 0x02, 0x03, 0x11, 0x00, 0x00, 0xAE, 0x82, 0x02, 0x03, 0x11, 0x00, 0x00, 0x81, 0x82, 0x03, 0x03, 0x11, 0x00, 0x00, 0x7F, 0x82, 0x02, 0x03, 0x11, 0x00, 0x00, 0xA8, 0x82, 0x03, 0x03, 0x11, 0x00, 0x00, 0x3F, 0x80, 0x08, 0x0B] [] t && t.dc.dcLevel == .one) &&
     gives (.dcCommandStream [0xAF, 0x80]) (unit [ok []])
       (fun t => shows (.ok .unit) [0x80, 0x00, 0x0B, 0x82, 0x02, 0x03, 0x11, 0x00, 0x00, 0xAF, 0x80, 0x08, 0x0B] [] t && t.dc.dcLevel == .zero) &&
     gives (.dcCommandStream []) (unit [ok []])
       (fun t => shows (.ok .unit) [0x80, 0x00, 0x0B, 0x80, 0x08, 0x0B] [] t && t.dc.dcLevel == .one) &&
     gives (.dcCommandStream [0x2A, 0x04, 0x00, 0x00, 0x00, 0x7F, 0x2C, 0x00]) (unit [ok []])
       (fun t => shows (.ok .unit) [0x80, 0x00, 0x0B, 0x82, 0x02, 0x03, 0x11, 0x00, 0x00, 0x2A, 0x82, 0x03, 0x03, 0x11, 0x03, 0x00, 0x00, 0x00, 0x00, 0x7F, 0x82, 0x02, 0x03, 0x11, 0x00, 0x00, 0x2C, 0x80, 0x08, 0x0B] [] t) &&
     gives (.dcCommandStream [0xAE]) (unit [])
       (fun t => t == { unit [] with resp := .error .invalidArgument }) &&
     gives (.dcCommandStream [0xAE, 0x02, 0x01]) (unit [])
       (fun t => t == { unit [] with resp := .error .invalidArgument }) &&
     gives (.dcCommandStream [0xAE, 0x00, 0x81]) (unit [])
       (fun t => t == { unit [] with resp := .error .invalidArgument })) = true := by decide +kernel

/-- DC.ResetDance and DC.ResetTimed (V14). -/
theorem test_dc_reset :
    (gives (.dcResetDance) (unit [ok []])
       (fun t => shows (.ok .unit) [0x82, 0x02, 0x03, 0x82, 0x03, 0x03, 0x82, 0x02, 0x03, 0x82, 0x03, 0x03, 0x82, 0x02, 0x03, 0x82, 0x01, 0x03] [] t && t.dc.dcLevel == .one) &&
     gives (.dcResetDance) ({ unit [ok []] with dc.dcLevel := .zero })
       (fun t => shows (.ok .unit) [0x82, 0x03, 0x03, 0x82, 0x02, 0x03, 0x82, 0x03, 0x03, 0x82, 0x02, 0x03, 0x82, 0x03, 0x03, 0x82, 0x00, 0x03] [] t && t.dc.dcLevel == .zero) &&
     gives (.dcResetDance) ({ unit [ok []] with dc.rstPin := 0, dc.highVal := 0x40, dc.highDir := 0xC0 })
       (fun t => shows (.ok .unit) [0x82, 0x40, 0xC1, 0x82, 0x41, 0xC1, 0x82, 0x40, 0xC1, 0x82, 0x41, 0xC1, 0x82, 0x40, 0xC1, 0x82, 0x41, 0xC1] [] t) &&
     gives (.dcResetTimed 10 120) (unit [ok [], ok []])
       (fun t => shows (.ok .unit) [0x82, 0x01, 0x03, 0x82, 0x03, 0x03] [] t && t.waited == [10, 120] && t.dc.dcLevel == .one && t.calls == 2) &&
     gives (.dcResetTimed 10 120) ({ unit [ok [], lost []] with dc.dcLevel := .zero })
       (fun t => shows (.error .transportFailure) [0x82, 0x00, 0x03] [] t && t.waited == [10])) = true := by decide +kernel

/-! ## XP: vector V16, program P5 -/

/-- The seven XP requests (V16); the number of response bytes is that of the delivered commands (P5, R123). -/
theorem test_xp :
    (gives (.xpEnqueue [0x87]) ({ State.reset with xp.cb := [0x81] })
       (fun t => shows (.ok .unit) [] [0x81, 0x87] t) &&
     gives (.xpExecute) ({ State.reset with xp.cb := [0x81, 0x83, 0x87], script := [ok [0xF8, 0xFF, 0x77]] })
       (fun t => shows (.ok .unit) [0x81, 0x83, 0x87] [] t && t.xp.rxq == [0xF8, 0xFF]) &&
     gives (.xpExecute) ({ State.reset with xp.cb := [0x81], script := [lost [0x81]] })
       (fun t => shows (.error .transportFailure) [] [0x81] t) &&
     gives (.xpRead 2) ({ State.reset with xp.rxq := [0xF8, 0xFF, 0x11], script := [ok []] })
       (fun t => shows (.ok (.bytes [0xF8, 0xFF])) [] [] t && t.xp.rxq == [0x11]) &&
     gives (.xpRead 1) ({ State.reset with script := [ok []] })
       (fun t => t.resp == .error .transportFailure) &&
     gives (.xpRead 0) (State.reset)
       (fun t => t.resp == .ok (.bytes []) && t.calls == 0) &&
     gives (.xpClearInput) ({ State.reset with xp.rxq := [1] })
       (fun t => t.xp.rxq == []) &&
     gives (.xpClearOutput) ({ State.reset with xp.cb := [0x81, 0x87] })
       (fun t => shows (.ok .unit) [] [] t) &&
     gives (.xpSetClockDivisor 0x001D) (State.reset)
       (fun t => t.xp.clkdiv == 0x001D && t.i2c.clkdiv == 0) &&
     gives (.xpSetLoopback true) (State.reset)
       (fun t => t.xp.loopback)) = true := by decide +kernel

/-! ## One step -/

/-- What a step answers is a next state of which this holds. -/
def steps (s : State) (p : State → Bool) : Bool :=
  match step s with
  | .next t => p t
  | _ => false

/-- A word at the request port is the next request, after a waiting function call; with none the block waits; a reserved
code is refused, an engine opcode among them (R8, R104). -/
theorem test_step :
    (steps (State.reset.withFetchWord 24 0x012BA0) (fun t => t.xp.cb == [0x86, 0x2B, 0x01]) &&
     steps { State.reset with port := [0xF6, 0x01, 0xF4] } (fun t => t.xp.loopback && t.port == [0xF4]) &&
     steps State.reset (fun t => t == State.reset) &&
     steps { State.reset with port := [0xF4], encPort := [0x8A] } (fun t =>
       t.resp == .ok (.bytes [0x8A]) && t.port == [0xF4] && t.encPort == [] && t.xp.cb == []) &&
     (match step { State.reset with port := [0xC8] } with
      | .refused (.reservedCode 0xC8) => true
      | _ => false) &&
     (match step { State.reset with port := [0x8A] } with
      | .refused (.reservedCode 0x8A) => true
      | _ => false) &&
     (match step { State.reset with encPort := [0xA1] } with
      | .refused (.unknownOpcode 0xA1) => true
      | _ => false)) = true := by decide +kernel

/-- Every row of the table, with zero operands, runs as the first request after reset or is refused because its unit is
not initialised: no row is rejected as not modelled. -/
theorem test_every_code_has_a_meaning :
    (Cmd.all.map Op.command ++ Op.requests).all (fun o => match step (State.reset.withFetchWord 8 o.code.toNat) with
      | .next _ => true
      | .refused .i2cNotReady => true
      | .refused .spiNotReady => true
      | _ => false) = true := by decide +kernel

/-- The default parameters are legal (R9, R10, R182). -/
theorem test_default_params_legal : Params.default.legal = true := by decide +kernel

/-! ## Witnesses: for every obligation with hypotheses, a state and operands that meet them -/

theorem next_of_gives {i : Instr} {s : State} {p : State → Bool} (h : gives i s p = true) :
    ∃ t : State, exec i s = .next t ∧ p t = true := by
  unfold gives at h
  split at h
  · exact ⟨_, ‹_›, h⟩
  · cases h

theorem next_of_steps {s : State} {p : State → Bool} (h : steps s p = true) :
    ∃ t : State, step s = .next t ∧ p t = true := by
  unfold steps at h
  split at h
  · exact ⟨_, ‹_›, h⟩
  · cases h

/-- A payload of a given length. -/
def bulk (n : Nat) : Bytes := List.replicate n 0x55

theorem bulk_length (n : Nat) : (bulk n).length = n := List.length_replicate

theorem test_witness_DecodeReadsBackEveryEncoding :
    (Instr.bytesOutPlusMsb [0x55] none none).wellFormed = true ∧
    (Instr.bytesOutPlusMsb (bulk 65536) none none).wellFormed = true ∧
    (Instr.bytesInPlusLsb 65536).wellFormed = true ∧ (Instr.bitsInMinusLsb 8).wellFormed = true ∧
    (Instr.dcWrite [] true).wellFormed = true :=
  ⟨by decide, by simp [Instr.wellFormed, wholePayload, bulk_length], by decide, by decide, by decide⟩

theorem test_witness_DecodeReadsBackEveryEncoding_kinds :
    familyOf (Instr.bitsInMinusLsb 8).op = .function ∧ familyOf (Instr.dcWrite [] true).op ≠ .function := by decide

theorem test_witness_StepRunsTheDecodedRequest :
    State.reset.encPort = [] ∧
    decodeRequest ({ State.reset with port := [0xE2, 0xF1] } : State).port = .ok (.spiEnable, [0xF1]) ∧
    decodeCommand ({ State.reset with encPort := [0x8A, 0x8B] } : State).encPort = .ok (.clkDiv5Disable, [0x8B]) :=
  ⟨rfl, rfl, rfl⟩

/-- The codes at both ends of the reserved ranges, an engine opcode, and a byte that is no opcode. -/
theorem test_witness_WaitsWhenIdleRefusesReservedCodes :
    (State.reset.encPort = [] ∧ State.reset.port = []) ∧
    (∀ b ∈ ([0x00, 0x80, 0x9F, 0xC8, 0xCF, 0xDC, 0xDF, 0xE6, 0xE7, 0xEF, 0xF7, 0xFF] : Bytes),
      ¬ (0xA0 ≤ b.toNat ∧ b.toNat ≤ 0xC7 ∨ 0xD0 ≤ b.toNat ∧ b.toNat ≤ 0xDB ∨ 0xE0 ≤ b.toNat ∧ b.toNat ≤ 0xE5 ∨
        0xE8 ≤ b.toNat ∧ b.toNat ≤ 0xEE ∨ 0xF0 ≤ b.toNat ∧ b.toNat ≤ 0xF6)) ∧
    ({ State.reset with port := [0xF7, 0x01] } : State).port = 0xF7 :: [0x01] ∧
    (∀ c ∈ Cmd.all, c.defaultOpc ≠ 0xA0) ∧
    ({ State.reset with encPort := [0xA0] } : State).encPort = 0xA0 :: [] := by
  refine ⟨⟨rfl, rfl⟩, ?_, rfl, ?_, rfl⟩ <;> decide

theorem test_witness_LengthFieldsRoundTrip :
    (1 ≤ 65536 ∧ 65536 ≤ 65536 ∧ 3 + 65536 ≤ (bulk 65539).length) ∧
    (1 ≤ 1 ∧ 1 ≤ 65536 ∧ 0 + 1 ≤ ([0x55] : Bytes).length) ∧ (65537 = 0 ∨ 65537 > 65536) ∧
    (1 ≤ 8 ∧ 8 ≤ 8) ∧ (9 = 0 ∨ 9 > 8) ∧
    encBytesOutPlusMsb ∈ [encBytesOutPlusMsb, encBytesOutMinusMsb] ∧ encBitsInPlusMsb ∈ [encBitsInPlusMsb] := by simp [bulk_length]

theorem test_witness_EngineSplitsAndCountsEveryCommand :
    Params.default.opc.toList.Nodup ∧
    (Cmd.readDataBitsLow ∈ Cmd.all ∧ Cmd.readDataBitsLow.format = .N) ∧
    (Cmd.setDataBitsLow ∈ Cmd.all ∧ Cmd.setDataBitsLow.format = .P) ∧
    (Cmd.setClockDivisor ∈ Cmd.all ∧ Cmd.setClockDivisor.format = .D) ∧
    (Cmd.bytesOutPlusMsb ∈ Cmd.all ∧ Cmd.bytesOutPlusMsb.format = .YO ∧ 1 ≤ ([0x55] : Bytes).length ∧
      (bulk 65536).length ≤ 65536) ∧
    (Cmd.bytesInPlusOutMinusMsb ∈ Cmd.all ∧ Cmd.bytesInPlusOutMinusMsb.format = .YIO) ∧
    (Cmd.bytesInPlusMsb ∈ Cmd.all ∧ Cmd.bytesInPlusMsb.format = .YI) ∧
    (Cmd.bitsOutPlusMsb ∈ Cmd.all ∧ Cmd.bitsOutPlusMsb.format = .BO ∧ (7 : Byte).toNat < 8) ∧
    (Cmd.bitsInPlusOutMinusMsb ∈ Cmd.all ∧ Cmd.bitsInPlusOutMinusMsb.format = .BIO) ∧
    (Cmd.bitsInPlusMsb ∈ Cmd.all ∧ Cmd.bitsInPlusMsb.format = .BI ∧ (0 : Byte).toNat < 8) := by
  refine ⟨by decide +kernel, ?_⟩
  simp only [Cmd.mem_all, bulk_length]
  decide

/-- The members of the lists, and both sides of the length condition, for the function form and the ENC request. -/
theorem test_witness_PayloadCommandFunctionsAnswerTheirBytes :
    (Instr.bytesOutPlusMsb, Cmd.bytesOutPlusMsb) ∈ [(Instr.bytesOutPlusMsb, Cmd.bytesOutPlusMsb)] ∧
    (1 ≤ 65536 ∧ 65536 ≤ 65536 ∧ 0 + 65536 ≤ (bulk 65536).length) ∧
    (1 ≤ 1 ∧ 1 ≤ 65536 ∧ 3 + 1 ≤ ([0xDE, 0xAD, 0xBE, 0xEF] : Bytes).length) ∧
    ¬ (1 ≤ 65537 ∧ 65537 ≤ 65536 ∧ 0 + 65537 ≤ (bulk 65537).length) ∧
    ¬ (1 ≤ 2 ∧ 2 ≤ 65536 ∧ 3 + 2 ≤ ([0xDE, 0xAD, 0xBE, 0xEF] : Bytes).length) := by simp [bulk_length]

theorem test_witness_PayloadEncRequestsAppendTheirBytes :
    (Instr.encBytesOutPlusMsb, Cmd.bytesOutPlusMsb) ∈ [(Instr.encBytesOutPlusMsb, Cmd.bytesOutPlusMsb)] ∧
    (1 ≤ 65536 ∧ 65536 ≤ 65536 ∧ 0 + 65536 ≤ (bulk 65536).length) ∧
    ¬ (1 ≤ 0 ∧ 0 ≤ 65536 ∧ 0 + 0 ≤ ([] : Bytes).length) := by simp [bulk_length]

theorem test_witness_ByteInFunctionsAndRequests :
    (1 ≤ 1 ∧ 1 ≤ 65536) ∧ (1 ≤ 65536 ∧ 65536 ≤ 65536) ∧ ¬ (1 ≤ 0 ∧ 0 ≤ 65536) ∧ ¬ (1 ≤ 65537 ∧ 65537 ≤ 65536) ∧
    (Instr.bytesInPlusMsb, Cmd.bytesInPlusMsb) ∈ [(Instr.bytesInPlusMsb, Cmd.bytesInPlusMsb)] ∧
    (Instr.encBytesInPlusMsb, Cmd.bytesInPlusMsb) ∈ [(Instr.encBytesInPlusMsb, Cmd.bytesInPlusMsb)] := by simp

theorem test_witness_BitFunctionsAndRequests :
    (1 ≤ 1 ∧ 1 ≤ 8) ∧ (1 ≤ 8 ∧ 8 ≤ 8) ∧ ¬ (1 ≤ 0 ∧ 0 ≤ 8) ∧ ¬ (1 ≤ 9 ∧ 9 ≤ 8) ∧
    (Instr.bitsInPlusMsb, Cmd.bitsInPlusMsb) ∈ [(Instr.bitsInPlusMsb, Cmd.bitsInPlusMsb)] ∧
    (Instr.encBitsOutPlusMsb, Cmd.bitsOutPlusMsb) ∈ [(Instr.encBitsOutPlusMsb, Cmd.bitsOutPlusMsb)] := by simp

theorem test_witness_PlainFunctionsAndRequests :
    (Instr.clkDiv5Disable, Cmd.clkDiv5Disable) ∈ [(Instr.clkDiv5Disable, Cmd.clkDiv5Disable)] ∧
    (Instr.encClkDiv5Disable, Cmd.clkDiv5Disable) ∈ [(Instr.encClkDiv5Disable, Cmd.clkDiv5Disable)] := by simp

theorem test_witness_XpExecuteDeliversOrFails :
    (unit [ok []]).answer.ok = true ∧ (unit [lost []]).answer.ok = false := by decide

/-- A read of exactly the bytes that wait, and of one more. -/
theorem test_witness_XpReadTakesTheFrontOrFails :
    (1 ≤ 2 ∧ ({ unit [ok []] with xp.rxq := [1, 2] } : State).answer.ok = true ∧
      2 ≤ ({ unit [ok []] with xp.rxq := [1, 2] } : State).xp.rxq.length) ∧
    (1 ≤ 3 ∧ ({ unit [ok []] with xp.rxq := [1, 2] } : State).xp.rxq.length < 3) ∧
    (1 ≤ 1 ∧ (unit [lost []]).answer.ok = false) := by decide

theorem test_witness_FlushBringsExactlyTheOwedBytes :
    responseTotal Params.default ({ unit [ok [1, 2]] with xp.wire := [0x81], xp.cb := [0x81, 0x83] } : State).xp.wire =
      some 1 ∧
    responseTotal Params.default ({ unit [ok [1, 2]] with xp.wire := [0x81], xp.cb := [0x81, 0x83] } : State).xp.cb =
      some 2 ∧
    2 ≤ ({ unit [ok [1, 2]] with xp.wire := [0x81], xp.cb := [0x81, 0x83] } : State).answer.bytes.length := by
  decide +kernel

theorem test_witness_AckTestIsBitZero : (0xFE : Byte).toNat % 2 = 0 ∧ (0xFF : Byte).toNat % 2 = 1 := by decide

theorem test_witness_I2cInitAndSetTiming :
    (∀ t ∈ [1, 255, 1, 1, 1], 1 ≤ t ∧ t ≤ 255) ∧ ¬ (∀ t ∈ [1, 0, 1, 1, 1], 1 ≤ t ∧ t ≤ 255) ∧
    ¬ (∀ t ∈ [1, 1, 1, 1, 256], 1 ≤ t ∧ t ≤ 255) ∧ (unit [ok []]).answer.ok = true ∧
    (unit [lost []]).answer.ok = false ∧ (unit []).i2c.ready = true := by decide

theorem test_witness_I2cPrimitives :
    ((unit []).i2c.ready = true ∧ (unit []).i2c.fsm = .idle ∧ (unit []).i2c.fsm ≠ .stopped) ∧
    ((started []).i2c.ready = true ∧ (started []).i2c.fsm = .started ∧ (started []).i2c.fsm ≠ .stopped) ∧
    ({ unit [] with i2c.fsm := .byteOut } : State).i2c.fsm = .byteOut ∧
    ({ unit [] with i2c.fsm := .byteIn } : State).i2c.fsm = .byteIn := by decide

theorem unit_accounted (script : List Answer) : (unit script).accounted := by
  refine ⟨rfl, ?_, rfl⟩
  rfl

theorem unit_nodup (script : List Answer) : (unit script).params.opc.toList.Nodup := by
  change Params.default.opc.toList.Nodup
  decide +kernel

theorem test_witness_I2cScanReportsTheAcknowledging (rest : List Answer) :
    let acks : Bytes := List.replicate 126 0x00
    let s := unit ((acks.flatMap fun r => byteAnswers r ++ [plainAnswer]) ++ rest)
    s.params.opc.toList.Nodup ∧ s.accounted ∧ s.i2c.ready = true ∧ s.i2c.fsm = .idle ∧ acks.length = 126 ∧
    s.script = (acks.flatMap fun r => byteAnswers r ++ [plainAnswer]) ++ rest :=
  ⟨unit_nodup _, unit_accounted _, rfl, rfl, rfl, rfl⟩

theorem test_witness_I2cScanListIsAscendingAndInRange : (unit []).i2c.ready = true ∧ (unit []).i2c.fsm = .idle := by decide

/-- No data, one byte, and one byte that is not acknowledged while the parameter asks for no check. -/
theorem test_witness_I2cWriteSendsTheTransaction :
    (let s := unit (([0x00, 0x02] : Bytes).flatMap byteAnswers ++ plainAnswer :: [])
     s.params.opc.toList.Nodup ∧ s.accounted ∧ s.i2c.ready = true ∧ s.i2c.fsm = .idle ∧
     ([0x00, 0x02] : Bytes).length = 2 + ([] : Bytes).length ∧
     (∀ k < ([0x00, 0x02] : Bytes).length, k < 2 ∨ s.params.checkDataAck = true →
       isAck (([0x00, 0x02] : Bytes).getD k 0) = true) ∧
     s.script = ([0x00, 0x02] : Bytes).flatMap byteAnswers ++ plainAnswer :: []) ∧
    (let s := unit (([0x00, 0x02, 0xFE] : Bytes).flatMap byteAnswers ++ plainAnswer :: [])
     s.accounted ∧ ([0x00, 0x02, 0xFE] : Bytes).length = 2 + ([0xAB] : Bytes).length ∧
     (∀ k < ([0x00, 0x02, 0xFE] : Bytes).length, k < 2 ∨ s.params.checkDataAck = true →
       isAck (([0x00, 0x02, 0xFE] : Bytes).getD k 0) = true)) ∧
    (let s := { unit (([0x00, 0x02, 0xFF] : Bytes).flatMap byteAnswers ++ plainAnswer :: []) with
        params.checkDataAck := false }
     s.params.opc.toList.Nodup ∧ s.accounted ∧ ([0x00, 0x02, 0xFF] : Bytes).length = 2 + ([0xAB] : Bytes).length ∧
     (∀ k < ([0x00, 0x02, 0xFF] : Bytes).length, k < 2 ∨ s.params.checkDataAck = true →
       isAck (([0x00, 0x02, 0xFF] : Bytes).getD k 0) = true)) :=
  ⟨⟨unit_nodup _, unit_accounted _, rfl, rfl, rfl, by decide, rfl⟩, ⟨unit_accounted _, rfl, by decide⟩,
    unit_nodup [], ⟨rfl, rfl, rfl⟩, rfl, by decide⟩

/-- I2C.Write goes on after an unacknowledged data byte where the parameter asks for no check, and stops where it does
(R200, R201). -/
theorem test_i2c_write_data_check :
    (gives (.i2cWrite 0x50 0x10 [0xAB])
       { unit [ok [0x00], ok [], ok [0x00], ok [], ok [0xFF], ok [], ok []] with params.checkDataAck := false }
       (fun t => t.resp == .ok .unit) &&
     gives (.i2cWrite 0x50 0x10 [0xAB]) (unit [ok [0x00], ok [], ok [0x00], ok [], ok [0xFF], ok [], ok []])
       (fun t => t.resp == .error (.protocolNack 2))) = true := by decide +kernel

/-- The address, and a data byte where the parameter asks for the check. -/
theorem test_witness_I2cWriteStopsAtAMissingAck :
    (let s := unit ((([] : Bytes) ++ [0x01]).flatMap byteAnswers ++ plainAnswer :: [])
     s.params.opc.toList.Nodup ∧ s.accounted ∧ s.i2c.ready = true ∧ s.i2c.fsm = .idle ∧
     ([] : Bytes).length < 2 + ([] : Bytes).length ∧ (∀ x ∈ ([] : Bytes), isAck x = true) ∧ isAck 0x01 = false ∧
     (([] : Bytes).length < 2 ∨ s.params.checkDataAck = true) ∧
     s.script = (([] : Bytes) ++ [0x01]).flatMap byteAnswers ++ plainAnswer :: []) ∧
    (let s := unit ((([0, 0] : Bytes) ++ [0x01]).flatMap byteAnswers ++ plainAnswer :: [])
     s.accounted ∧ ([0, 0] : Bytes).length < 2 + ([0xAB] : Bytes).length ∧
     (∀ x ∈ ([0, 0] : Bytes), isAck x = true) ∧ (([0, 0] : Bytes).length < 2 ∨ s.params.checkDataAck = true)) :=
  ⟨⟨unit_nodup _, unit_accounted _, rfl, rfl, by decide, by decide, by decide, by decide, rfl⟩,
    unit_accounted _, by decide, by decide, by decide⟩

theorem test_witness_I2cReadReturnsTheBytes :
    let s := unit ((([0xFE, 0x00, 0x02] : Bytes) ++ [0x12]).flatMap byteAnswers ++ plainAnswer :: [])
    s.i2c.ready = true ∧ s.i2c.fsm = .idle ∧ s.params.opc.toList.Nodup ∧ s.accounted ∧
    1 ≤ ([0x12] : Bytes).length ∧ isAck 0xFE = true ∧ isAck 0x00 = true ∧ isAck 0x02 = true ∧
    s.script = (([0xFE, 0x00, 0x02] : Bytes) ++ [0x12]).flatMap byteAnswers ++ plainAnswer :: [] :=
  ⟨rfl, rfl, unit_nodup _, unit_accounted _, by decide, by decide, by decide, by decide, rfl⟩

/-- The address to write, the register, and the address to read. -/
theorem test_witness_I2cReadStopsAtAMissingAck :
    (let s := unit ((([] : Bytes) ++ [0x01]).flatMap byteAnswers ++ plainAnswer :: [])
     s.params.opc.toList.Nodup ∧ s.accounted ∧ s.i2c.ready = true ∧ s.i2c.fsm = .idle ∧ 1 ≤ 1 ∧
     ([] : Bytes).length < 3 ∧ (∀ x ∈ ([] : Bytes), isAck x = true) ∧ isAck 0x01 = false ∧
     s.script = (([] : Bytes) ++ [0x01]).flatMap byteAnswers ++ plainAnswer :: []) ∧
    (([0] : Bytes).length < 3 ∧ ∀ x ∈ ([0] : Bytes), isAck x = true) ∧
    (([0, 0] : Bytes).length < 3 ∧ ∀ x ∈ ([0, 0] : Bytes), isAck x = true) :=
  ⟨⟨unit_nodup _, unit_accounted _, rfl, rfl, by decide, by decide, by decide, by decide, rfl⟩, by decide, by decide⟩

theorem test_witness_I2cFastWriteAndFastReadBatch :
    (unit []).i2c.ready = true ∧ (unit []).i2c.fsm = .idle ∧ 1 ≤ 1 := by decide

theorem test_witness_I2cWriteIsItsPrimitives :
    ∃ t : State, exec (.i2cWrite 0x50 0x10 []) (unit [ok [0x00], ok [], ok [0x02], ok [], ok []]) = .next t ∧
      decide (t.resp = .ok .unit) = true :=
  next_of_gives (by decide +kernel)

theorem test_witness_I2cTransportFailureLeavesIdle :
    familyOf (Instr.i2cSendByte 0xA0).op = .i2c ∧
    ∃ t : State, exec (.i2cSendByte 0xA0) (started [ok [0x00], lost []]) = .next t ∧
      decide (t.resp = .error .transportFailure) = true :=
  ⟨rfl, next_of_gives (by decide +kernel)⟩

/-- A ProtocolNack of each of the four helpers. -/
theorem test_witness_ProtocolNackComesAfterTheStop :
    (∃ t : State, exec (.i2cWrite 0x50 0x10 []) (unit [ok [0x01], ok [], ok []]) = .next t ∧
      decide (t.resp = .error (.protocolNack 0)) = true) ∧
    (∃ t : State, exec (.i2cRead 0x50 0x10 1) (unit [ok [0x00], ok [], ok [0x01], ok [], ok []]) = .next t ∧
      decide (t.resp = .error (.protocolNack 1)) = true) ∧
    (∃ t : State, exec (.i2cFastWrite 0x50 0x10 []) (unit [ok [0x00, 0x01], ok []]) = .next t ∧
      decide (t.resp = .error (.protocolNack 1)) = true) ∧
    (∃ t : State, exec (.i2cFastRead 0x50 0x10 1) (unit [ok [0x00, 0x00, 0x01, 0x00], ok []]) = .next t ∧
      decide (t.resp = .error (.protocolNack 2)) = true) :=
  ⟨next_of_gives (by decide +kernel), next_of_gives (by decide +kernel), next_of_gives (by decide +kernel),
    next_of_gives (by decide +kernel)⟩

theorem test_witness_SpiAndDcInit :
    ((0x08 : Byte) ≠ 0 ∧ (0x08 : Byte) &&& ((unit []).params.pinClk ||| (unit []).params.pinDo |||
      (unit []).params.pinDi) = 0 ∧ (0x01 : Byte) ≠ 0 ∧ (0x01 : Byte) &&& 0x02 = 0) ∧
    ¬ ((0x09 : Byte) ≠ 0 ∧ (0x09 : Byte) &&& ((unit []).params.pinClk ||| (unit []).params.pinDo |||
      (unit []).params.pinDi) = 0) ∧
    ¬ ((0x01 : Byte) ≠ 0 ∧ (0x01 : Byte) &&& 0x01 = 0) ∧
    (unit [ok []]).answer.ok = true ∧ (unit [lost []]).answer.ok = false := by decide

/-- A ready SPI unit with the DC capability, and the payload lengths at the edges. -/
theorem test_witness_SpiAndDcRequests :
    (unit []).spi.ready = true ∧ (unit []).dc.present = true ∧
    (1 ≤ (bulk 1).length ∧ (bulk 65536).length ≤ 65536) ∧
    (([] : Bytes).length = 0 ∨ ([] : Bytes).length > 65536) ∧
    ((bulk 65537).length = 0 ∨ (bulk 65537).length > 65536) ∧
    parseStream [0xAF, 0x80] = .ok [(0, 0)] ∧ parseStream [] = .ok [] ∧
    parseStream [0xAE, 0x02, 0x01] = .error .invalidArgument := by
  simp only [bulk_length]
  refine ⟨rfl, rfl, by decide, by decide, by decide, rfl, rfl, rfl⟩

theorem test_witness_ChunksCoverThePayload :
    (1 ≤ 1 ∧ 1 ≤ 65536) ∧ (1 ≤ 65536 ∧ 65536 ≤ 65536) ∧ (1 ≤ 65537 ∧ 65536 < 65537) ∧ 1 < (dcChunks 65537).length := by
  decide +kernel

/-- Entries at both bounds, and argument lists that end one byte early under both top bits. -/
theorem test_witness_StreamParsesItsEntriesIgnoringTopBits :
    (∀ e ∈ [((0xAF : Byte), true, ([] : Bytes)), (0x2A, false, bulk 127)], e.2.2.length ≤ 127) ∧
    ([] : Bytes).length < (0x01 : Byte).toNat % 128 ∧ (bulk 126).length < (0xFF : Byte).toNat % 128 := by
  simp [bulk_length]

theorem test_witness_StepKeepsTheInvariant :
    (unit [ok []]).inv ∧ ∃ t : State, step { unit [ok []] with port := [0xE4, 0x01, 0x42] } = .next t ∧
      decide (t.resp = .ok .unit) = true :=
  ⟨by decide, next_of_steps (by decide +kernel)⟩

theorem test_witness_InvalidArgumentChangesNothing :
    ∃ t : State, exec (.dcCommandStream [0xAE, 0x02, 0x01]) (unit []) = .next t ∧
      decide (t.resp = .error .invalidArgument) = true :=
  next_of_gives (by decide +kernel)

/-- One request of each of the three families, with a result, with a missing acknowledgment and without either. -/
theorem test_witness_SequencersReadAllTheirResponses :
    familyOf (Instr.i2cFastWrite 0x50 0x10 []).op = .i2c ∧ familyOf (Instr.spiTransfer [0x42]).op = .spi ∧
    familyOf Instr.dcResetDance.op = .dc ∧ (unit []).params.opc.toList.Nodup ∧ (unit []).accounted ∧
    (∃ t : State, exec (.i2cFastWrite 0x50 0x10 []) (unit [ok [0x00, 0x01], ok []]) = .next t ∧
      decide (t.resp ≠ .error .transportFailure) = true) ∧
    (∃ t : State, exec (.spiTransfer [0x42]) (unit [ok [0x24], ok []]) = .next t ∧
      decide (t.resp ≠ .error .transportFailure) = true) ∧
    (∃ t : State, exec .dcResetDance (unit [ok []]) = .next t ∧
      decide (t.resp ≠ .error .transportFailure) = true) :=
  ⟨rfl, rfl, rfl, unit_nodup _, unit_accounted _, next_of_gives (by decide +kernel), next_of_gives (by decide +kernel),
    next_of_gives (by decide +kernel)⟩

theorem test_witness_BytesReachTheWireInOrder :
    Instr.xpExecute ≠ .xpClearOutput ∧ ∃ t : State, exec .xpExecute { unit [ok []] with xp.cb := [0x87] } = .next t ∧
      decide (t.resp ≠ .error .transportFailure) = true :=
  ⟨by decide, next_of_gives (by decide +kernel)⟩

/-- A request of each family. -/
theorem test_witness_FamiliesLeaveTheOthersAlone :
    familyOf Instr.sendImmediate.op = .function ∧ familyOf Instr.encSendImmediate.op = .enc ∧
    familyOf Instr.i2cStart.op = .i2c ∧ familyOf Instr.spiEnable.op = .spi ∧
    familyOf (Instr.dcSetDcLevel true).op = .dc ∧ familyOf Instr.xpClearInput.op = .xp ∧
    (∃ t : State, exec .sendImmediate (unit []) = .next t) ∧ (∃ t : State, exec .encSendImmediate (unit []) = .next t) ∧
    (∃ t : State, exec .i2cStart (unit []) = .next t) ∧ (∃ t : State, exec .spiEnable (unit []) = .next t) ∧
    (∃ t : State, exec (.dcSetDcLevel true) (unit []) = .next t) ∧ (∃ t : State, exec .xpClearInput (unit []) = .next t) ∧
    (Instr.i2cStart.op ∉ [Op.i2cInit, Op.i2cSetTiming] ∧ Instr.spiEnable.op ≠ .spiInit ∧
      (Instr.dcSetDcLevel true).op ≠ .dcInit ∧ (Instr.i2cSetTiming 1 1 1 1 1).op = .i2cSetTiming) ∧
    (∃ t : State, exec (.i2cSetTiming 1 1 1 1 1) (unit []) = .next t) :=
  ⟨rfl, rfl, rfl, rfl, rfl, rfl, ⟨_, rfl⟩, ⟨_, rfl⟩, ⟨_, rfl⟩, ⟨_, rfl⟩, ⟨_, rfl⟩, ⟨_, rfl⟩, by decide, ⟨_, rfl⟩⟩

/-- Both sides of the condition: a unit that is ready and one that is not, a state R184 allows and one it does not. -/
theorem test_witness_RefusalsAreExactlyTheRules :
    ((unit []).i2c.ready = true ∧ (unit []).i2c.fsm = .idle ∧ (unit []).spi.ready = true ∧ (unit []).dc.present = true) ∧
    (State.reset.i2c.ready = false ∧ State.reset.spi.ready = false ∧ State.reset.dc.present = false) ∧
    (started []).i2c.fsm ≠ .idle := by decide

end Sys2Proof.Tests
end

section
/-! PROOFS. One step (R7, R8): what stands first at a port is taken off it and executed. -/

namespace Sys2Proof.Machine

/-- The request decoder reads nothing from an empty port. -/
theorem ne_nil_of_decodeRequest {bs : Bytes} {x : Instr × Bytes} (h : decodeRequest bs = .ok x) : bs ≠ [] := by
  rintro rfl
  cases h

/-- The decoder of function calls reads nothing from an empty interface. -/
theorem ne_nil_of_decodeCommand {bs : Bytes} {x : Instr × Bytes} (h : decodeCommand bs = .ok x) : bs ≠ [] := by
  rintro rfl
  cases h

theorem step_of_takeNext {s s' : State} {i : Instr} (h : takeNext s = .instr i s') : step s = exec i s' := by
  simp only [step, h]

theorem takeNext_of_request {s : State} {i : Instr} {rest : Bytes} (hcall : s.encPort = [])
    (h : decodeRequest s.port = .ok (i, rest)) : takeNext s = .instr i (s.accept rest) := by
  rcases takeNext_cases s with ⟨-, hport, -⟩ | ⟨-, -, hnext⟩ | ⟨hne, -⟩
  · exact absurd hport (ne_nil_of_decodeRequest h)
  · exact hnext.trans (takeRequest_of_ok h)
  · exact absurd hcall hne

theorem takeNext_of_functionCall {s : State} {i : Instr} {rest : Bytes}
    (h : decodeCommand s.encPort = .ok (i, rest)) : takeNext s = .instr i (s.takeCall rest) := by
  have hne := ne_nil_of_decodeCommand h
  rcases takeNext_cases s with ⟨hnil, -⟩ | ⟨hnil, -⟩ | ⟨-, hnext⟩
  · exact absurd hnil hne
  · exact absurd hnil hne
  · exact hnext.trans (takeFunctionCall_of_ok h)

/-- Settles O3: what is taken next is what the port's decoder reads, and a step is `exec` of that. -/
theorem stepRunsTheDecodedRequest : Obligations.StepRunsTheDecodedRequest := fun _ _ _ =>
  ⟨fun hcall h => step_of_takeNext (takeNext_of_request hcall h),
    fun h => step_of_takeNext (takeNext_of_functionCall h)⟩

end Sys2Proof.Machine
end

section
/-! PROOFS. The engine's reading of one whole command of each operand shape (R91 to R95, R99) and the response bytes it
owes (R123). A whole command splits off any stream by `responseTotal_append`. -/

namespace Sys2Proof.Machine

/-! ## Length fields -/

theorem halfOf_toNat (lo hi : Byte) : (halfOf lo hi).toNat = lo.toNat + 256 * hi.toNat := by
  have happend : (halfOf lo hi).toNat = hi.toNat <<< 8 ||| lo.toNat := BitVec.toNat_append hi lo
  rw [happend, ← Nat.shiftLeft_add_eq_or_of_lt lo.isLt, Nat.shiftLeft_eq]
  omega

/-- The two length bytes of `transferBytes` hold the payload's length less one (R98). -/
theorem halfOf_lengthBytes {n : Nat} (h1 : 1 ≤ n) (h2 : n ≤ 65536) :
    (halfOf (BitVec.ofNat 8 ((n - 1) % 256)) (BitVec.ofNat 8 ((n - 1) / 256))).toNat + 1 = n := by
  simp only [halfOf_toNat, BitVec.toNat_ofNat]
  omega

/-! ## Single bytes of a command -/

theorem Scan.byte_opcode {p : Params} (h : p.opc.toList.Nodup) (c : Cmd) (t : Nat) :
    Scan.byte p ⟨.start, t⟩ (p.opcOf c) = Scan.opcode t c := by
  simp only [Scan.byte, cmdOfByte_opcOf h]

/-- The two length bytes of a byte transfer (R94). -/
theorem Scan.bytes_length (p : Params) (c : Cmd) (t : Nat) (lo hi : Byte) (bs : Bytes) :
    Scan.bytes p ⟨.lenLo c, t⟩ (lo :: hi :: bs) =
      Scan.bytes p (Scan.byteLength t c ((halfOf lo hi).toNat + 1)) bs := rfl

/-- A legal length byte of a bit transfer (R95). -/
theorem Scan.byte_bitLength (p : Params) (c : Cmd) (t : Nat) {g : Byte} (hg : g.toNat < 8) :
    Scan.byte p ⟨.bitLen c, t⟩ g =
      if c.format = .BI then ⟨.start, t + respCount c 0⟩ else ⟨.body (respCount c 0) 0, t⟩ := by
  have hlt : g < 8 := BitVec.lt_def.mpr hg
  simp only [Scan.byte, Scan.bitLength, if_pos hlt]
  cases c.format <;> rfl

/-! ## Whole commands -/

/-- A stream whose reading ends at an opcode owes the bytes counted. -/
theorem responseTotal_of_bytes {p : Params} {bs : Bytes} {m : Nat} (h : Scan.bytes p ⟨.start, 0⟩ bs = ⟨.start, m⟩) :
    responseTotal p bs = some m := by
  simp [responseTotal, h]

section
variable {p : Params} (h : p.opc.toList.Nodup) {c : Cmd}
include h

theorem responseTotal_plain (hc : c.format = .N) : responseTotal p [p.opcOf c] = some (respCount c 0) := by
  have hop : Scan.opcode 0 c = ⟨.start, respCount c 0⟩ := by simp only [Scan.opcode, hc, Nat.zero_add]
  apply responseTotal_of_bytes
  rw [Scan.bytes_cons, Scan.byte_opcode h, hop, Scan.bytes_nil]

theorem responseTotal_twoOperands (hc : c.format = .P ∨ c.format = .D) (x y : Byte) :
    responseTotal p [p.opcOf c, x, y] = some 0 := by
  have hop : Scan.opcode 0 c = ⟨.body 0 1, 0⟩ := by rcases hc with hc | hc <;> simp only [Scan.opcode, respCount, hc]
  apply responseTotal_of_bytes
  rw [Scan.bytes_cons, Scan.byte_opcode h, hop, Scan.bytes_body p 0 1 0 [x, y] rfl]

theorem responseTotal_byteTransfer (hc : c.format = .YO ∨ c.format = .YIO) {lo hi : Byte} {bs : Bytes}
    (hlen : (halfOf lo hi).toNat + 1 = bs.length) :
    responseTotal p (p.opcOf c :: lo :: hi :: bs) = some (respCount c bs.length) := by
  have hop : Scan.opcode 0 c = ⟨.lenLo c, 0⟩ := by rcases hc with hc | hc <;> simp only [Scan.opcode, hc]
  have hfield : Scan.byteLength 0 c bs.length = ⟨.body (respCount c bs.length) (bs.length - 1), 0⟩ := by
    rcases hc with hc | hc <;> simp only [Scan.byteLength, hc]
  have hbody : bs.length = bs.length - 1 + 1 := by omega
  apply responseTotal_of_bytes
  rw [Scan.bytes_cons, Scan.byte_opcode h, hop, Scan.bytes_length, hlen, hfield, Scan.bytes_body p _ _ _ bs hbody,
    Nat.zero_add]

theorem responseTotal_bytesIn (hc : c.format = .YI) (lo hi : Byte) :
    responseTotal p [p.opcOf c, lo, hi] = some (lo.toNat + 256 * hi.toNat + 1) := by
  have hop : Scan.opcode 0 c = ⟨.lenLo c, 0⟩ := by simp only [Scan.opcode, hc]
  have hfield (n : Nat) : Scan.byteLength 0 c n = ⟨.start, n⟩ := by
    simp only [Scan.byteLength, respCount, hc, Nat.zero_add]
  apply responseTotal_of_bytes
  rw [Scan.bytes_cons, Scan.byte_opcode h, hop, Scan.bytes_length, hfield, halfOf_toNat, Scan.bytes_nil]

theorem responseTotal_bitTransfer (hc : c.format = .BO ∨ c.format = .BIO) {g : Byte} (hg : g.toNat < 8) (data : Byte) :
    responseTotal p [p.opcOf c, g, data] = some (respCount c 0) := by
  have hop : Scan.opcode 0 c = ⟨.bitLen c, 0⟩ := by rcases hc with hc | hc <;> simp only [Scan.opcode, hc]
  have hne : c.format ≠ .BI := by rcases hc with hc | hc <;> simp [hc]
  apply responseTotal_of_bytes
  rw [Scan.bytes_cons, Scan.byte_opcode h, hop, Scan.bytes_cons, Scan.byte_bitLength p c 0 hg, if_neg hne,
    Scan.bytes_body p _ 0 0 [data] rfl, Nat.zero_add]

theorem responseTotal_bitsIn (hc : c.format = .BI) {g : Byte} (hg : g.toNat < 8) :
    responseTotal p [p.opcOf c, g] = some 1 := by
  have hop : Scan.opcode 0 c = ⟨.bitLen c, 0⟩ := by simp only [Scan.opcode, hc]
  have hresp : respCount c 0 = 1 := by simp only [respCount, hc]
  apply responseTotal_of_bytes
  rw [Scan.bytes_cons, Scan.byte_opcode h, hop, Scan.bytes_cons, Scan.byte_bitLength p c 0 hg, if_pos hc, hresp,
    Scan.bytes_nil]

end

/-- Settles O6: each shape's whole command is counted by its lemma above and splits off the stream. -/
theorem engineSplitsAndCountsEveryCommand : Obligations.EngineSplitsAndCountsEveryCommand := by
  intro p h rest
  refine ⟨fun c _ hc => ?_, fun c _ hc x y => ?_, fun c _ hc bs h1 h2 => ?_, fun c _ hc lo hi => ?_,
    fun c _ hc g data hg => ?_, fun c _ hc g hg => ?_⟩
  · have hresp : respCount c 0 = if c = .readDataBitsLow ∨ c = .readDataBitsHigh then 1 else 0 := by
      simp only [respCount, hc]
    rw [← hresp]
    exact responseTotal_append (responseTotal_plain h hc) rest
  · simpa using responseTotal_append (responseTotal_twoOperands h hc x y) rest
  · have hresp : respCount c bs.length = if c.format = .YIO then bs.length else 0 := by
      rcases hc with hc | hc <;> simp [respCount, hc]
    rw [← hresp]
    exact responseTotal_append (responseTotal_byteTransfer h hc (halfOf_lengthBytes h1 h2)) rest
  · exact responseTotal_append (responseTotal_bytesIn h hc lo hi) rest
  · have hresp : respCount c 0 = if c.format = .BIO then 1 else 0 := by
      rcases hc with hc | hc <;> simp [respCount, hc]
    rw [← hresp]
    exact responseTotal_append (responseTotal_bitTransfer h hc hg data) rest
  · exact responseTotal_append (responseTotal_bitsIn h hc hg) rest

end Sys2Proof.Machine
end

section
/-! PROOFS. What the pieces of the requests keep. A property that the transport calls and one unit's register writes keep
is kept by every request of that unit but its Init; the ends of the three Inits are listed as whole states. -/

namespace Sys2Proof.Machine

/-! ## The transport calls -/

/-- The response, the transport's buffers and the environment's answers may change without disturbing `P`. -/
structure TransportKept (P : State → Prop) : Prop where
  respond : ∀ s r, P s → P (s.respond r)
  enqueue : ∀ s bs, P s → P (s.enqueue bs)
  flushed : ∀ s, P s → P s.flushed
  flushLost : ∀ s, P s → P s.flushLost
  taken : ∀ s n, P s → P (s.taken n)
  readLost : ∀ s, P s → P s.readLost

namespace TransportKept
variable {P : State → Prop} (h : TransportKept P)
include h

theorem keeps_enqueueOf (bytes : State → Bytes) : Keeps P (update fun s => s.enqueue (bytes s)) :=
  Keeps.update fun s => h.enqueue s (bytes s)

theorem keeps_executeBuffer : Keeps P executeBuffer := Keeps.executeBuffer h.flushed h.flushLost

theorem keeps_read (n : Nat) : Keeps P (read n) := Keeps.read n (h.taken · n) h.readLost

theorem keeps_enqueueCommand (c : Except Error Bytes) : Keeps P (enqueueCommand c) := by
  cases c with
  | ok bs => exact h.keeps_enqueueOf fun _ => bs
  | error e => exact Keeps.raise e

theorem keeps_flushExpect (n : Nat) : Keeps P (flushExpect n) := by
  refine (Keeps.update fun s hs => ?_).andThen fun _ => h.keeps_executeBuffer.andThen fun _ => h.keeps_read n
  split
  · exact h.enqueue s _ hs
  · exact hs

/-- The end of a request that is never refused. -/
theorem of_complete {m : Req Result} (hm : Keeps P m) {s t : State} (hx : complete m s = .next t) (hs : P s) : P t := by
  cases hx
  exact respondWith_keeps h.respond hm hs

end TransportKept

/-! ## I2C -/

/-- `P` is also kept by every move of `I2C_FSM` but the one to Stopped, which no requester sees (R30). -/
structure I2cKept (P : State → Prop) : Prop extends TransportKept P where
  setFsm : ∀ s f, f ≠ .stopped → P s → P (s.setFsm f)

namespace I2cKept
variable {P : State → Prop} (h : I2cKept P)
include h

theorem keeps_goTo {f : Fsm} (hf : f ≠ .stopped) : Keeps P (goTo f) := Keeps.update fun s => h.setFsm s f hf

/-- What holds once `I2C_FSM` is put back to Idle is not disturbed by the transport either. -/
theorem transportKept_setFsm_idle : TransportKept fun s => P (s.setFsm .idle) where
  respond s := h.respond (s.setFsm .idle)
  enqueue s := h.enqueue (s.setFsm .idle)
  flushed s := h.flushed (s.setFsm .idle)
  flushLost s := h.flushLost (s.setFsm .idle)
  taken s := h.taken (s.setFsm .idle)
  readLost s := h.readLost (s.setFsm .idle)

omit h in
/-- From Stopped on: `P` holds at the end where it would hold in Idle, as a failure goes to Idle at once (R205). -/
theorem of_stopped {α β : Type} {m : Req α} {k : α → Req β} (hm : Keeps (fun s => P (s.setFsm .idle)) m)
    (hk : ∀ v s, P (s.setFsm .idle) → P (k v s).state) {s : State} (hs : P (s.setFsm .idle)) :
    P (andThen (goTo .stopped) (fun _ => andThen (idleOnFailure m) k) s).state := by
  have hm' := hm (s.setFsm .stopped) hs
  simp only [goTo, andThen_update, idleOnFailure]
  cases hr : m (s.setFsm .stopped) with
  | done v u => rw [hr] at hm'; rw [andThen_of_done (onFailure_of_done hr _)]; exact hk v u hm'
  | raised e u => rw [hr] at hm'; rw [andThen_of_raised (onFailure_of_raised hr _)]; exact hm'

theorem keeps_i2cStart : Keeps P i2cStart :=
  (h.keeps_enqueueOf i2cStartSeq).andThen fun _ => h.keeps_goTo (by decide)

theorem keeps_i2cStop : Keeps P i2cStop := by
  refine (h.keeps_enqueueOf i2cStopSeq).andThen fun _ s hs => ?_
  refine of_stopped h.transportKept_setFsm_idle.keeps_executeBuffer ?_ (h.setFsm s .idle (by decide) hs)
  exact fun _ _ hu => hu

theorem keeps_fastBatch (seq : State → Bytes) (n : Nat) : Keeps P (fastBatch seq n) := by
  refine (h.keeps_enqueueOf seq).andThen fun _ s hs => ?_
  refine of_stopped (h.transportKept_setFsm_idle.keeps_flushExpect n) ?_ (h.setFsm s .idle (by decide) hs)
  exact fun _ _ hu => hu

theorem keeps_idleOnFailure {α : Type} {m : Req α} (hm : Keeps P m) : Keeps P (idleOnFailure m) :=
  hm.onFailure fun s => h.setFsm s .idle (by decide)

theorem keeps_i2cSendByte (b : Byte) : Keeps P (i2cSendByte b) :=
  (h.keeps_enqueueOf fun s => i2cOutSeq s.params b).andThen fun _ =>
    (h.keeps_goTo (by decide)).andThen fun _ =>
    (h.keeps_idleOnFailure (h.keeps_flushExpect 1)).andThen fun _ => Keeps.ret _

theorem keeps_i2cReceiveByte (a : Bool) : Keeps P (i2cReceiveByte a) :=
  (h.keeps_enqueueOf fun s => i2cInSeq s.params a).andThen fun _ =>
    (h.keeps_goTo (by decide)).andThen fun _ =>
    (h.keeps_idleOnFailure (h.keeps_flushExpect 1)).andThen fun _ => Keeps.ret _

theorem keeps_nackAbort {α : Type} (k : Nat) : Keeps P (nackAbort k : Req α) :=
  h.keeps_i2cStop.andThen fun _ => Keeps.raise _

theorem keeps_expectAck (k : Nat) {m : Req Bool} (hm : Keeps P m) : Keeps P (expectAck k m) := by
  refine hm.andThen fun ack => ?_
  cases ack with
  | true => exact Keeps.ret ()
  | false => exact h.keeps_nackAbort k

theorem keeps_i2cWriteData (k : Nat) (data : Bytes) : Keeps P (i2cWriteData k data) := by
  induction data generalizing k with
  | nil => exact Keeps.ret ()
  | cons b rest ih =>
    refine (h.keeps_i2cSendByte b).andThen fun ack => Keeps.withState fun s => ?_
    split
    · exact h.keeps_nackAbort k
    · exact ih (k + 1)

theorem keeps_i2cReadData (n : Nat) : Keeps P (i2cReadData n) := by
  induction n with
  | zero => exact Keeps.ret []
  | succ m ih =>
    exact (h.keeps_i2cReceiveByte _).andThen fun _ => ih.andThen fun _ => Keeps.ret _

theorem keeps_i2cProbe (a : Addr7) : Keeps P (i2cProbe a) :=
  h.keeps_i2cStart.andThen fun _ => (h.keeps_i2cSendByte _).andThen fun _ =>
    h.keeps_i2cStop.andThen fun _ => Keeps.ret _

theorem keeps_i2cScanFrom (a count : Nat) : Keeps P (i2cScanFrom a count) := by
  induction count generalizing a with
  | zero => exact Keeps.ret []
  | succ n ih => exact (h.keeps_i2cProbe _).andThen fun _ => (ih (a + 1)).andThen fun _ => Keeps.ret _

omit h in
theorem keeps_raiseNack (k : Option Nat) : Keeps P (raiseNack k) := by
  cases k with
  | none => exact Keeps.ret ()
  | some j => exact Keeps.raise _

/-- The end of an I2C request that needs `I2C_READY`. -/
theorem of_i2cRequest {allowed : Fsm → Bool} {m : Req Result} (hm : Keeps P m) {s t : State}
    (hx : i2cRequest allowed m s = .next t) (hs : s.i2c.ready = true → P s) : P t := by
  obtain ⟨hready, -, rfl⟩ := i2cRequest_next hx
  exact respondWith_keeps h.respond hm (hs hready)

/-- Every I2C request but the two that write the unit's settings keeps `P`. -/
theorem exec_keeps {i : Instr} {s t : State} (hfam : familyOf i.op = .i2c) (hop : i.op ∉ [Op.i2cInit, Op.i2cSetTiming])
    (hx : exec i s = .next t) (hs : s.i2c.ready = true → P s) : P t := by
  unfold exec at hx
  cases i with
  | i2cInit | i2cSetTiming => simp [Instr.op] at hop
  | i2cStart => exact h.of_i2cRequest (h.keeps_i2cStart.andThen fun _ => Keeps.ret _) hx hs
  | i2cStop => exact h.of_i2cRequest (h.keeps_i2cStop.andThen fun _ => Keeps.ret _) hx hs
  | i2cSendByte b => exact h.of_i2cRequest ((h.keeps_i2cSendByte b).andThen fun _ => Keeps.ret _) hx hs
  | i2cSendAddress a7 rw => exact h.of_i2cRequest ((h.keeps_i2cSendByte _).andThen fun _ => Keeps.ret _) hx hs
  | i2cReceiveByte a => exact h.of_i2cRequest ((h.keeps_i2cReceiveByte a).andThen fun _ => Keeps.ret _) hx hs
  | i2cScan => exact h.of_i2cRequest ((h.keeps_i2cScanFrom 1 126).andThen fun _ => Keeps.ret _) hx hs
  | i2cWrite a7 reg data =>
    refine h.of_i2cRequest ?_ hx hs
    exact h.keeps_i2cStart.andThen fun _ =>
      (h.keeps_expectAck 0 (h.keeps_i2cSendByte _)).andThen fun _ =>
      (h.keeps_expectAck 1 (h.keeps_i2cSendByte reg)).andThen fun _ =>
      (h.keeps_i2cWriteData 2 data).andThen fun _ =>
      h.keeps_i2cStop.andThen fun _ => Keeps.ret _
  | i2cRead a7 reg n =>
    refine h.of_i2cRequest ?_ hx hs
    split
    · exact Keeps.raise _
    · exact h.keeps_i2cStart.andThen fun _ =>
        (h.keeps_expectAck 0 (h.keeps_i2cSendByte _)).andThen fun _ =>
        (h.keeps_expectAck 1 (h.keeps_i2cSendByte reg)).andThen fun _ =>
        h.keeps_i2cStart.andThen fun _ =>
        (h.keeps_expectAck 2 (h.keeps_i2cSendByte _)).andThen fun _ =>
        (h.keeps_i2cReadData n).andThen fun _ =>
        h.keeps_i2cStop.andThen fun _ => Keeps.ret _
  | i2cFastWrite a7 reg data =>
    refine h.of_i2cRequest ?_ hx hs
    exact (h.keeps_fastBatch _ _).andThen fun _ => Keeps.withState fun _ =>
      (keeps_raiseNack _).andThen fun _ => Keeps.ret _
  | i2cFastRead a7 reg n =>
    refine h.of_i2cRequest ?_ hx hs
    split
    · exact Keeps.raise _
    · exact (h.keeps_fastBatch _ _).andThen fun _ => (keeps_raiseNack _).andThen fun _ => Keeps.ret _
  | _ => cases hfam

end I2cKept

/-! ## SPI -/

/-- `P` is also kept by every write of `CS_LEVEL` (R38). -/
structure SpiKept (P : State → Prop) : Prop extends TransportKept P where
  setCsLevel : ∀ s l, P s → P (s.setCsLevel l)

namespace SpiKept
variable {P : State → Prop} (h : SpiKept P)
include h

theorem keeps_csSet (l : Bit) : Keeps P (csSet l) :=
  Keeps.update fun s hs => h.enqueue _ _ (h.setCsLevel s l hs)

theorem keeps_csSetIfManaged (l : Option Bit) : Keeps P (csSetIfManaged l) := by
  cases l with
  | none => exact Keeps.ret ()
  | some l => exact h.keeps_csSet l

theorem keeps_spiEnable : Keeps P spiEnable := Keeps.withState fun _ => h.keeps_csSetIfManaged _

theorem keeps_spiDisable : Keeps P spiDisable := Keeps.withState fun _ => h.keeps_csSetIfManaged _

theorem keeps_enqueueWrite (payload : Bytes) (off n : Nat) : Keeps P (enqueueWrite payload off n) :=
  Keeps.withState fun _ => h.keeps_enqueueCommand _

theorem keeps_enqueueDuplex (payload : Bytes) (off n : Nat) : Keeps P (enqueueDuplex payload off n) :=
  Keeps.withState fun _ => h.keeps_enqueueCommand _

theorem keeps_bracketed {inside : Req Unit} (hi : Keeps P inside) : Keeps P (bracketed inside) :=
  h.keeps_spiEnable.andThen fun _ => hi.andThen fun _ => h.keeps_spiDisable.andThen fun _ => h.keeps_executeBuffer

/-- The end of an SPI request that needs `SPI_READY`. -/
theorem of_spiRequest {m : Req Result} (hm : Keeps P m) {s t : State} (hx : spiRequest m s = .next t) (hs : P s) :
    P t := by
  obtain ⟨-, rfl⟩ := spiRequest_next hx
  exact respondWith_keeps h.respond hm hs

/-- Every SPI request but SPI.Init keeps `P`. -/
theorem exec_keeps {i : Instr} {s t : State} (hfam : familyOf i.op = .spi) (hop : i.op ≠ .spiInit)
    (hx : exec i s = .next t) (hs : P s) : P t := by
  unfold exec at hx
  cases i with
  | spiInit => exact absurd rfl hop
  | spiSetCsLevel level => exact h.of_spiRequest ((h.keeps_csSet level).andThen fun _ => Keeps.ret _) hx hs
  | spiEnable => exact h.of_spiRequest (h.keeps_spiEnable.andThen fun _ => Keeps.ret _) hx hs
  | spiDisable => exact h.of_spiRequest (h.keeps_spiDisable.andThen fun _ => Keeps.ret _) hx hs
  | spiWrite payload =>
    refine h.of_spiRequest ?_ hx hs
    split
    · exact (h.keeps_bracketed (h.keeps_enqueueWrite _ _ _)).andThen fun _ => Keeps.ret _
    · exact Keeps.raise _
  | spiTransfer payload =>
    refine h.of_spiRequest ?_ hx hs
    split
    · exact (h.keeps_bracketed (h.keeps_enqueueDuplex _ _ _)).andThen fun _ =>
        (h.keeps_read _).andThen fun _ => Keeps.ret _
    · exact Keeps.raise _
  | _ => cases hfam

end SpiKept

/-! ## DC -/

/-- `P` is also kept by every write of `DC_LEVEL` (R43) and by the waits (R276). -/
structure DcKept (P : State → Prop) : Prop extends SpiKept P where
  setDcLevel : ∀ s l, P s → P (s.setDcLevel l)
  delay : ∀ s ms, P s → P (s.delay ms)

namespace DcKept
variable {P : State → Prop} (h : DcKept P)
include h

theorem keeps_dcSet (l : Bit) (rst : Rst) : Keeps P (dcSet l rst) :=
  Keeps.update fun s hs => h.enqueue _ _ (h.setDcLevel s l hs)

theorem keeps_dcToggle (rst : Rst) : Keeps P (dcToggle rst) := Keeps.withState fun _ => h.keeps_dcSet _ rst

theorem keeps_delay (ms : Millis) : Keeps P (Machine.delay ms) := Keeps.update fun s => h.delay s ms

theorem keeps_streamEntry (buf : Bytes) (e : Nat × Nat) : Keeps P (streamEntry buf e) := by
  refine (h.keeps_dcSet _ _).andThen fun _ => (h.keeps_enqueueWrite _ _ _).andThen fun _ => ?_
  split
  · exact (h.keeps_dcSet _ _).andThen fun _ => h.keeps_enqueueWrite _ _ _
  · exact Keeps.ret ()

/-- The end of a DC request that needs `SPI_READY` and `DC_PRESENT`. -/
theorem of_dcRequest {m : Req Result} (hm : Keeps P m) {s t : State} (hx : dcRequest m s = .next t) (hs : P s) :
    P t := by
  obtain ⟨-, -, rfl⟩ := dcRequest_next hx
  exact respondWith_keeps h.respond hm hs

/-- Every DC request but DC.Init keeps `P`. -/
theorem exec_keeps {i : Instr} {s t : State} (hfam : familyOf i.op = .dc) (hop : i.op ≠ .dcInit)
    (hx : exec i s = .next t) (hs : P s) : P t := by
  unfold exec at hx
  cases i with
  | dcInit => exact absurd rfl hop
  | dcSetDcLevel isCommand => exact h.of_dcRequest ((h.keeps_dcSet _ _).andThen fun _ => Keeps.ret _) hx hs
  | dcWrite payload isCommand =>
    refine h.of_dcRequest ?_ hx hs
    split
    · exact Keeps.raise _
    · exact (h.keeps_bracketed ((h.keeps_dcSet _ _).andThen fun _ =>
        Keeps.forEach (fun _ => h.keeps_enqueueWrite _ _ _) _)).andThen fun _ => Keeps.ret _
  | dcTransfer payload isCommand =>
    refine h.of_dcRequest ?_ hx hs
    split
    · exact Keeps.raise _
    · exact (h.keeps_bracketed ((h.keeps_dcSet _ _).andThen fun _ =>
        Keeps.forEach (fun _ => h.keeps_enqueueDuplex _ _ _) _)).andThen fun _ =>
        (h.keeps_read _).andThen fun _ => Keeps.ret _
  | dcCommandStream buf =>
    refine h.of_dcRequest ?_ hx hs
    split
    · exact Keeps.raise _
    · exact (h.keeps_bracketed (Keeps.forEach (h.keeps_streamEntry buf) _)).andThen fun _ => Keeps.ret _
  | dcResetDance =>
    refine h.of_dcRequest ?_ hx hs
    exact (Keeps.forEach (fun _ => h.keeps_dcToggle _) _).andThen fun _ => (h.keeps_dcToggle _).andThen fun _ =>
      h.keeps_executeBuffer.andThen fun _ => Keeps.ret _
  | dcResetTimed ms1 ms2 =>
    refine h.of_dcRequest ?_ hx hs
    exact (h.keeps_enqueueOf _).andThen fun _ => h.keeps_executeBuffer.andThen fun _ =>
      (h.keeps_delay ms1).andThen fun _ => (h.keeps_enqueueOf _).andThen fun _ =>
      h.keeps_executeBuffer.andThen fun _ => (h.keeps_delay ms2).andThen fun _ => Keeps.ret _
  | _ => cases hfam

end DcKept

/-! ## Function forms and ENC requests -/

/-- Every function form answers the value of its `enc_` function (R120). -/
theorem exec_function {i : Instr} (hfam : familyOf i.op = .function) (s : State) :
    ∃ c, exec i s = answerCommand c s := by
  unfold exec
  cases i <;> cases hfam <;> exact ⟨_, rfl⟩

/-- Every ENC request appends the value of its `enc_` function (R124). -/
theorem exec_enc {i : Instr} (hfam : familyOf i.op = .enc) (s : State) : ∃ c, exec i s = appendCommand c s := by
  unfold exec
  cases i <;> cases hfam <;> exact ⟨_, rfl⟩

/-- A function form changes nothing but the response (R122). -/
theorem answerCommand_next {c : Except Error Bytes} {s t : State} (hx : answerCommand c s = .next t) :
    ∃ r, t = s.respond r := by
  cases c <;> cases hx <;> exact ⟨_, rfl⟩

/-- An ENC request appends its bytes and answers OK, or answers its error (R124). -/
theorem appendCommand_next {c : Except Error Bytes} {s t : State} (hx : appendCommand c s = .next t) :
    (∃ bs, c = .ok bs ∧ t = (s.enqueue bs).respond (.ok .unit)) ∨
    (∃ e, c = .error e ∧ t = s.respond (.error e)) := by
  cases c with
  | ok bs => cases hx; exact .inl ⟨bs, rfl, rfl⟩
  | error e => cases hx; exact .inr ⟨e, rfl, rfl⟩

/-! ## The Inits and I2C.SetTiming -/

/-- The last steps of an Init: the flush, after which `mark` is written, or `unmark` if it fails (R186, R238, R262). -/
theorem respondWith_flushThenMark (unmark mark : State → State) (s : State) :
    let t := respondWith (andThen (onFailure executeBuffer unmark) (fun _ => andThen (update mark) fun _ => ret .unit) s)
    t = (mark s.flushed).respond (.ok .unit) ∨ t = (unmark s.flushLost).respond (.error .transportFailure) := by
  rcases executeBuffer_cases s with ⟨-, hflush⟩ | ⟨-, hflush⟩
  · rw [andThen_of_done (onFailure_of_done hflush unmark)]; exact .inl rfl
  · rw [andThen_of_raised (onFailure_of_raised hflush unmark)]; exact .inr rfl

/-- I2C.Init before its flush: settings loaded, Idle, the init sequence enqueued (R186). -/
def State.i2cInitSent (s : State) (div : Half) (t1 t2 t3 t4 t5 : Nat) : State :=
  (((s.setI2cClkdiv div).setTiming t1 t2 t3 t4 t5).setFsm .idle).enqueue (i2cInitSeq s.params div)

/-- SPI.Init before its flush: configuration loaded, no DC capability, chip-select at its initial level (R238). -/
def State.spiInitSent (s : State) (mode : Mode) (order : Order) (csPin : Byte) (policy : CsPolicy)
    (lowVal lowDir : Byte) : State :=
  let u := (s.setSpiConfig mode order csPin policy lowVal lowDir).setDcPresent false
  (u.setCsLevel (initialLevel policy)).enqueue (csCmd u (initialLevel policy))

/-- DC.Init before its flush: both configurations loaded, chip-select and data/command line at their first levels
(R262). -/
def State.dcInitSent (s : State) (mode : Mode) (order : Order) (csPin : Byte) (policy : CsPolicy)
    (lowVal lowDir dcPin rstPin highVal highDir : Byte) : State :=
  let u := (s.setSpiConfig mode order csPin policy lowVal lowDir).setDcConfig dcPin rstPin highVal highDir
  let v := (u.setCsLevel (initialLevel policy)).enqueue (csCmd u (initialLevel policy))
  (v.setDcLevel .one).enqueue (dcCmd v .one .inactive)

/-- I2C.Init rejects its counts, or makes the unit ready or not ready as its flush goes (R186). -/
theorem exec_i2cInit_cases {div : Half} {t1 t2 t3 t4 t5 : Nat} {s t : State}
    (hx : exec (.i2cInit div t1 t2 t3 t4 t5) s = .next t) :
    t = s.respond (.error .invalidArgument) ∨
    legalTiming t1 t2 t3 t4 t5 = true ∧
      (t = ((s.i2cInitSent div t1 t2 t3 t4 t5).flushed.setI2cReady true).respond (.ok .unit) ∨
        t = ((s.i2cInitSent div t1 t2 t3 t4 t5).flushLost.setI2cReady false).respond (.error .transportFailure)) := by
  simp only [exec, execI2cInit] at hx
  split at hx
  · cases hx; exact .inr ⟨‹_›, respondWith_flushThenMark _ _ (s.i2cInitSent div t1 t2 t3 t4 t5)⟩
  · cases hx; exact .inl rfl

/-- I2C.SetTiming rejects its counts or loads them (R187). -/
theorem exec_i2cSetTiming_cases {t1 t2 t3 t4 t5 : Nat} {s t : State}
    (hx : exec (.i2cSetTiming t1 t2 t3 t4 t5) s = .next t) :
    t = s.respond (.error .invalidArgument) ∨
    legalTiming t1 t2 t3 t4 t5 = true ∧ t = (s.setTiming t1 t2 t3 t4 t5).respond (.ok .unit) := by
  simp only [exec] at hx
  obtain ⟨-, -, ht⟩ := i2cRequest_next hx
  split at ht
  · exact .inr ⟨‹_›, ht⟩
  · exact .inl ht

/-- SPI.Init rejects its mask, or makes the unit ready or not ready as its flush goes (R238). -/
theorem exec_spiInit_cases {mode : Mode} {order : Order} {csPin : Byte} {policy : CsPolicy} {lowVal lowDir : Byte}
    {s t : State} (hx : exec (.spiInit mode order csPin policy lowVal lowDir) s = .next t) :
    t = s.respond (.error .invalidArgument) ∨
    legalCsPin s.params csPin = true ∧
      (t = ((s.spiInitSent mode order csPin policy lowVal lowDir).flushed.setSpiReady true).respond (.ok .unit) ∨
        t = ((s.spiInitSent mode order csPin policy lowVal lowDir).flushLost.setSpiReady false).respond
          (.error .transportFailure)) := by
  simp only [exec, execSpiInit] at hx
  split at hx
  · cases hx; exact .inr ⟨‹_›, respondWith_flushThenMark _ _ (s.spiInitSent mode order csPin policy lowVal lowDir)⟩
  · cases hx; exact .inl rfl

/-- DC.Init rejects its masks, or makes the unit ready and the capability present, or neither, as its flush goes
(R262). -/
theorem exec_dcInit_cases {mode : Mode} {order : Order} {csPin : Byte} {policy : CsPolicy}
    {lowVal lowDir dcPin rstPin highVal highDir : Byte} {s t : State}
    (hx : exec (.dcInit mode order csPin policy lowVal lowDir dcPin rstPin highVal highDir) s = .next t) :
    let u := s.dcInitSent mode order csPin policy lowVal lowDir dcPin rstPin highVal highDir
    t = s.respond (.error .invalidArgument) ∨
    legalCsPin s.params csPin = true ∧ legalDcPins dcPin rstPin = true ∧
      (t = ((u.flushed.setSpiReady true).setDcPresent true).respond (.ok .unit) ∨
        t = ((u.flushLost.setSpiReady false).setDcPresent false).respond (.error .transportFailure)) := by
  simp only [exec, execDcInit] at hx
  split at hx
  · obtain ⟨hcs, hdc⟩ := Bool.and_eq_true_iff.mp ‹_›
    cases hx
    exact .inr ⟨hcs, hdc, respondWith_flushThenMark _ _
      (s.dcInitSent mode order csPin policy lowVal lowDir dcPin rstPin highVal highDir)⟩
  · cases hx; exact .inl rfl

end Sys2Proof.Machine
end

section
/-! PROOFS. What each family leaves alone (R122, R124, R238, R260, R297, R308). The registers a family may change are put
at a fixed value; two states that are then equal agree in every other register. -/

namespace Sys2Proof.Machine

/-! ## States up to the registers a request may change -/

/-- What any request may change fixed: the response, the transport's buffers, the environment's answers. -/
def State.fixed (s : State) : State :=
  { s with resp := .awaiting, script := [], calls := 0, xp.cb := [], xp.rxq := [], xp.wire := [] }

/-- Also the I2C unit fixed. -/
def State.i2cFixed (s : State) : State := { s.fixed with i2c := I2c.reset }

/-- Also the SPI unit and `DC_PRESENT` fixed. -/
def State.spiFixed (s : State) : State := { s.fixed with spi := Spi.reset, dc.present := false }

/-- Also the SPI unit, the DC capability and the record of waits fixed. -/
def State.dcFixed (s : State) : State := { s.fixed with spi := Spi.reset, dc := Dc.reset, waited := [] }

/-- Also the transport's two settings fixed. -/
def State.xpFixed (s : State) : State := { s.fixed with xp := Xp.reset }

/-- Of the I2C unit only `I2C_FSM` fixed. -/
def State.fsmFixed (s : State) : State := s.fixed.setFsm .idle

/-- Of the SPI unit only `CS_LEVEL` fixed. -/
def State.csFixed (s : State) : State := s.fixed.setCsLevel .zero

/-- Of the SPI unit and the DC capability only the two cached levels fixed. -/
def State.levelsFixed (s : State) : State := { s.csFixed.setDcLevel .zero with waited := [] }

/-- The parameters and the bytes at the two ports. -/
def State.presented (s : State) : Params × Bytes × Bytes := (s.params, s.port, s.encPort)

/-- The transport calls keep what does not depend on the registers any request may change. -/
theorem transportKept_of_fixed {P : State → Prop} (h : ∀ s t : State, t.fixed = s.fixed → P s → P t) :
    TransportKept P where
  respond _ _ := h _ _ rfl
  enqueue _ _ := h _ _ rfl
  flushed _ := h _ _ rfl
  flushLost _ := h _ _ rfl
  taken _ _ := h _ _ rfl
  readLost _ := h _ _ rfl

theorem i2cKept_fsmFixed (s : State) : I2cKept fun t => t.fsmFixed = s.fsmFixed where
  toTransportKept := transportKept_of_fixed fun _ _ h => (congrArg (State.setFsm · .idle) h).trans
  setFsm _ _ _ h := h

theorem spiKept_csFixed (s : State) : SpiKept fun t => t.csFixed = s.csFixed where
  toTransportKept := transportKept_of_fixed fun _ _ h => (congrArg (State.setCsLevel · .zero) h).trans
  setCsLevel _ _ h := h

theorem dcKept_levelsFixed (s : State) : DcKept fun t => t.levelsFixed = s.levelsFixed where
  toTransportKept := transportKept_of_fixed fun _ _ h =>
    (congrArg (fun u : State => { (u.setCsLevel .zero).setDcLevel .zero with waited := [] }) h).trans
  setCsLevel _ _ h := h
  setDcLevel _ _ h := h
  delay _ _ h := h

theorem transportKept_xpFixed (s : State) : TransportKept fun t => t.xpFixed = s.xpFixed :=
  transportKept_of_fixed fun _ _ h => (congrArg (fun u : State => { u with xp := Xp.reset }) h).trans

/-! ## Each family -/

section
variable {i : Instr} {s t : State}

theorem exec_function_respond (hfam : familyOf i.op = .function) (hx : exec i s = .next t) : ∃ r, t = s.respond r := by
  obtain ⟨c, hc⟩ := exec_function hfam s
  exact answerCommand_next (hc.symm.trans hx)

theorem exec_enc_enqueue (hfam : familyOf i.op = .enc) (hx : exec i s = .next t) :
    ∃ bs r, t = (s.enqueue bs).respond r := by
  obtain ⟨c, hc⟩ := exec_enc hfam s
  rcases appendCommand_next (hc.symm.trans hx) with ⟨bs, -, rfl⟩ | ⟨e, -, rfl⟩
  · exact ⟨bs, _, rfl⟩
  · exact ⟨[], .error e, by simp [State.enqueue]⟩

theorem exec_i2c_fsmFixed (hfam : familyOf i.op = .i2c) (hop : i.op ∉ [Op.i2cInit, Op.i2cSetTiming])
    (hx : exec i s = .next t) : t.fsmFixed = s.fsmFixed :=
  (i2cKept_fsmFixed s).exec_keeps hfam hop hx fun _ => rfl

theorem exec_spi_csFixed (hfam : familyOf i.op = .spi) (hop : i.op ≠ .spiInit) (hx : exec i s = .next t) :
    t.csFixed = s.csFixed :=
  (spiKept_csFixed s).exec_keeps hfam hop hx rfl

theorem exec_dc_levelsFixed (hfam : familyOf i.op = .dc) (hop : i.op ≠ .dcInit) (hx : exec i s = .next t) :
    t.levelsFixed = s.levelsFixed :=
  (dcKept_levelsFixed s).exec_keeps hfam hop hx rfl

theorem exec_i2c_i2cFixed (hfam : familyOf i.op = .i2c) (hx : exec i s = .next t) : t.i2cFixed = s.i2cFixed := by
  by_cases hop : i.op ∈ [Op.i2cInit, Op.i2cSetTiming]
  · cases i with
    | i2cInit div t1 t2 t3 t4 t5 =>
      rcases exec_i2cInit_cases hx with rfl | ⟨-, rfl | rfl⟩ <;>
        simp [State.i2cFixed, State.fixed, State.i2cInitSent]
    | i2cSetTiming t1 t2 t3 t4 t5 => rcases exec_i2cSetTiming_cases hx with rfl | ⟨-, rfl⟩ <;> rfl
    | _ => simp [Instr.op] at hop
  · exact congrArg (fun u : State => { u with i2c := I2c.reset }) (exec_i2c_fsmFixed hfam hop hx)

theorem exec_spi_spiFixed (hfam : familyOf i.op = .spi) (hx : exec i s = .next t) : t.spiFixed = s.spiFixed := by
  by_cases hop : i.op = .spiInit
  · cases i with
    | spiInit =>
      rcases exec_spiInit_cases hx with rfl | ⟨-, rfl | rfl⟩ <;>
        simp [State.spiFixed, State.fixed, State.spiInitSent]
    | _ => simp [Instr.op] at hop
  · exact congrArg (fun u : State => { u with spi := Spi.reset, dc.present := false }) (exec_spi_csFixed hfam hop hx)

theorem exec_dc_dcFixed (hfam : familyOf i.op = .dc) (hx : exec i s = .next t) : t.dcFixed = s.dcFixed := by
  by_cases hop : i.op = .dcInit
  · cases i with
    | dcInit =>
      rcases exec_dcInit_cases hx with rfl | ⟨-, -, rfl | rfl⟩ <;>
        simp [State.dcFixed, State.fixed, State.dcInitSent]
    | _ => simp [Instr.op] at hop
  · exact congrArg (fun u : State => { u with spi := Spi.reset, dc := Dc.reset }) (exec_dc_levelsFixed hfam hop hx)

theorem exec_xp_xpFixed (hfam : familyOf i.op = .xp) (hx : exec i s = .next t) : t.xpFixed = s.xpFixed := by
  have h := transportKept_xpFixed s
  unfold exec at hx
  cases i with
  | xpEnqueue bytes => exact h.of_complete ((h.keeps_enqueueOf fun _ => bytes).andThen fun _ => Keeps.ret _) hx rfl
  | xpExecute => exact h.of_complete (h.keeps_executeBuffer.andThen fun _ => Keeps.ret _) hx rfl
  | xpRead n => exact h.of_complete ((h.keeps_read n).andThen fun _ => Keeps.ret _) hx rfl
  | xpClearInput | xpClearOutput | xpSetClockDivisor | xpSetLoopback => cases hx; rfl
  | _ => cases hfam

/-- No request changes the parameters or what is presented after it. -/
theorem exec_presented (hx : exec i s = .next t) : t.presented = s.presented := by
  cases hfam : familyOf i.op with
  | function => obtain ⟨r, rfl⟩ := exec_function_respond hfam hx; rfl
  | enc => obtain ⟨bs, r, rfl⟩ := exec_enc_enqueue hfam hx; rfl
  | i2c => exact congrArg (·.presented) (exec_i2c_i2cFixed hfam hx)
  | spi => exact congrArg (·.presented) (exec_spi_spiFixed hfam hx)
  | dc => exact congrArg (·.presented) (exec_dc_dcFixed hfam hx)
  | xp => exact congrArg (·.presented) (exec_xp_xpFixed hfam hx)

end

/-- Settles O59, family by family: each clause is read off the equality of the two states up to what the family may
change. -/
theorem familiesLeaveTheOthersAlone : Obligations.FamiliesLeaveTheOthersAlone := by
  intro i s t hx
  have hpresented := exec_presented hx
  refine ⟨congrArg (·.1) hpresented, congrArg (·.2.1) hpresented, congrArg (·.2.2) hpresented, fun hfam => ?_,
    fun hfam => ?_, fun hfam => ?_, fun hfam hop => ?_, fun hop => ?_, fun hfam => ?_, fun hfam hop => ?_,
    fun hfam => ?_, fun hfam hop => ?_, fun hfam => ?_⟩
  · obtain ⟨r, rfl⟩ := exec_function_respond hfam hx
    rfl
  · obtain ⟨bs, r, rfl⟩ := exec_enc_enqueue hfam hx
    rfl
  · have h := exec_i2c_i2cFixed hfam hx
    exact ⟨congrArg (·.spi) h, congrArg (·.dc) h, congrArg (·.waited) h, congrArg (·.xp.clkdiv) h,
      congrArg (·.xp.loopback) h⟩
  · exact congrArg (fun u : State => { u.i2c with fsm := t.i2c.fsm }) (exec_i2c_fsmFixed hfam hop hx)
  · cases i with
    | i2cSetTiming => rcases exec_i2cSetTiming_cases hx with rfl | ⟨-, rfl⟩ <;> exact ⟨rfl, rfl, rfl, rfl⟩
    | _ => cases hop
  · have h := exec_spi_spiFixed hfam hx
    exact ⟨congrArg (·.i2c) h, congrArg (fun u : State => { u.dc with present := t.dc.present }) h,
      congrArg (·.waited) h, congrArg (·.xp.clkdiv) h, congrArg (·.xp.loopback) h⟩
  · have h := exec_spi_csFixed hfam hop hx
    exact ⟨congrArg (fun u : State => { u.spi with csLevel := t.spi.csLevel }) h, congrArg (·.dc) h⟩
  · have h := exec_dc_dcFixed hfam hx
    exact ⟨congrArg (·.i2c) h, congrArg (·.xp.clkdiv) h, congrArg (·.xp.loopback) h⟩
  · have h := exec_dc_levelsFixed hfam hop hx
    exact ⟨congrArg (fun u : State => { u.spi with csLevel := t.spi.csLevel }) h,
      congrArg (fun u : State => { u.dc with dcLevel := t.dc.dcLevel }) h⟩
  · have h := exec_xp_xpFixed hfam hx
    exact ⟨congrArg (·.i2c) h, congrArg (·.spi) h, congrArg (·.dc) h, congrArg (·.waited) h⟩

end Sys2Proof.Machine
end

section
/-! PROOFS. The register invariant (R30, R32, R34, R40 to R42) and the reset values. The invariant falls into a part
about the I2C unit and one about the SPI unit with its DC capability; a request of one unit leaves the other part's
registers alone. -/

namespace Sys2Proof.Machine

/-! ## The two parts of the invariant -/

/-- The invariant's part about the I2C unit (R29, R30, R32). -/
def I2c.Inv (u : I2c) : Prop :=
  u.fsm ≠ .stopped ∧ (u.ready = false → u.fsm = .idle) ∧
  (u.tStart1 ≠ 0 ∧ u.tStart2 ≠ 0 ∧ u.tStop1 ≠ 0 ∧ u.tStop2 ≠ 0 ∧ u.tStop3 ≠ 0)

/-- The invariant's part about the SPI unit and the DC capability (R34, R40 to R42). -/
def PinsInv (p : Params) (u : Spi) (d : Dc) : Prop :=
  (u.ready = true → u.csPin ≠ 0 ∧ u.csPin &&& (p.pinClk ||| p.pinDo ||| p.pinDi) = 0) ∧
  (d.present = true → u.ready = true ∧ d.dcPin ≠ 0 ∧ d.dcPin &&& d.rstPin = 0)

theorem State.inv_iff (s : State) : s.inv ↔ s.i2c.Inv ∧ PinsInv s.params s.spi s.dc :=
  ⟨fun ⟨hstop, hidle, hcounts, hcs, hdc⟩ => ⟨⟨hstop, hidle, hcounts⟩, hcs, hdc⟩,
    fun ⟨⟨hstop, hidle, hcounts⟩, hcs, hdc⟩ => ⟨hstop, hidle, hcounts, hcs, hdc⟩⟩

/-! ## Checked operands are legal register values -/

/-- A legal count does not wrap to 0 in its register (R32, R186). -/
theorem ofNat_ne_zero_of_legalCount {n : Nat} (h : legalCount n = true) : BitVec.ofNat 8 n ≠ 0 := by
  have hrange : 1 ≤ n ∧ n ≤ 255 := by simpa [legalCount] using h
  intro hzero
  have hnat : n % 256 = 0 := by simpa using congrArg BitVec.toNat hzero
  omega

theorem counts_ne_zero_of_legalTiming {t1 t2 t3 t4 t5 : Nat} (h : legalTiming t1 t2 t3 t4 t5 = true) :
    BitVec.ofNat 8 t1 ≠ 0 ∧ BitVec.ofNat 8 t2 ≠ 0 ∧ BitVec.ofNat 8 t3 ≠ 0 ∧ BitVec.ofNat 8 t4 ≠ 0 ∧
    BitVec.ofNat 8 t5 ≠ 0 := by
  simp only [legalTiming, Bool.and_eq_true, and_assoc] at h
  obtain ⟨h1, h2, h3, h4, h5⟩ := h
  exact ⟨ofNat_ne_zero_of_legalCount h1, ofNat_ne_zero_of_legalCount h2, ofNat_ne_zero_of_legalCount h3,
    ofNat_ne_zero_of_legalCount h4, ofNat_ne_zero_of_legalCount h5⟩

theorem legalCsPin_iff (p : Params) (csPin : Byte) :
    legalCsPin p csPin = true ↔ csPin ≠ 0 ∧ csPin &&& (p.pinClk ||| p.pinDo ||| p.pinDi) = 0 := by
  simp [legalCsPin]

theorem legalDcPins_iff (dcPin rstPin : Byte) :
    legalDcPins dcPin rstPin = true ↔ dcPin ≠ 0 ∧ dcPin &&& rstPin = 0 := by
  simp [legalDcPins]

/-! ## The I2C part -/

/-- A ready unit keeps its part of the invariant wherever `I2C_FSM` goes but to Stopped. -/
theorem i2cKept_inv : I2cKept fun s => s.i2c.ready = true ∧ s.i2c.Inv where
  toTransportKept := transportKept_of_fixed fun _ _ h =>
    (congrArg (fun u : State => u.i2c.ready = true ∧ u.i2c.Inv) h).mpr
  setFsm _ _ hf h := by
    obtain ⟨hready, -, -, hcounts⟩ := h
    exact ⟨hready, hf, fun hnot => absurd (hready.symm.trans hnot) (by decide), hcounts⟩

section
variable {i : Instr} {s t : State}

theorem exec_i2c_inv (hfam : familyOf i.op = .i2c) (hx : exec i s = .next t) (hs : s.i2c.Inv) : t.i2c.Inv := by
  by_cases hop : i.op ∈ [Op.i2cInit, Op.i2cSetTiming]
  · cases i with
    | i2cInit div t1 t2 t3 t4 t5 =>
      rcases exec_i2cInit_cases hx with rfl | ⟨hlegal, rfl | rfl⟩
      · exact hs
      all_goals exact ⟨nofun, fun _ => rfl, counts_ne_zero_of_legalTiming hlegal⟩
    | i2cSetTiming t1 t2 t3 t4 t5 =>
      rcases exec_i2cSetTiming_cases hx with rfl | ⟨hlegal, rfl⟩
      · exact hs
      · obtain ⟨hstop, hidle, -⟩ := hs
        exact ⟨hstop, hidle, counts_ne_zero_of_legalTiming hlegal⟩
    | _ => simp [Instr.op] at hop
  · exact (i2cKept_inv.exec_keeps hfam hop hx fun hready => ⟨hready, hs⟩).2

/-- Only an I2C request touches the I2C unit. -/
theorem exec_leaves_i2c (hfam : familyOf i.op ≠ .i2c) (hx : exec i s = .next t) : t.i2c = s.i2c := by
  cases hf : familyOf i.op with
  | function => obtain ⟨r, rfl⟩ := exec_function_respond hf hx; rfl
  | enc => obtain ⟨bs, r, rfl⟩ := exec_enc_enqueue hf hx; rfl
  | i2c => exact absurd hf hfam
  | spi => exact congrArg (·.i2c) (exec_spi_spiFixed hf hx)
  | dc => exact congrArg (·.i2c) (exec_dc_dcFixed hf hx)
  | xp => exact congrArg (·.i2c) (exec_xp_xpFixed hf hx)

theorem exec_keeps_i2cInv (hx : exec i s = .next t) (hs : s.i2c.Inv) : t.i2c.Inv := by
  by_cases hfam : familyOf i.op = .i2c
  · exact exec_i2c_inv hfam hx hs
  · rw [exec_leaves_i2c hfam hx]; exact hs

/-! ## The SPI and DC part -/

/-- The cached levels are in no pin rule. -/
theorem dcKept_pinsInv : DcKept fun s => PinsInv s.params s.spi s.dc where
  toTransportKept := transportKept_of_fixed fun _ _ h =>
    (congrArg (fun u : State => PinsInv u.params u.spi u.dc) h).mpr
  setCsLevel _ _ h := h
  setDcLevel _ _ h := h
  delay _ _ h := h

theorem exec_spi_pinsInv (hfam : familyOf i.op = .spi) (hx : exec i s = .next t) (hs : PinsInv s.params s.spi s.dc) :
    PinsInv t.params t.spi t.dc := by
  by_cases hop : i.op = .spiInit
  · cases i with
    | spiInit mode order csPin policy lowVal lowDir =>
      rcases exec_spiInit_cases hx with rfl | ⟨hlegal, rfl | rfl⟩
      · exact hs
      · simpa [PinsInv, State.spiInitSent] using (legalCsPin_iff _ _).mp hlegal
      · simp [PinsInv, State.spiInitSent]
    | _ => simp [Instr.op] at hop
  · exact dcKept_pinsInv.toSpiKept.exec_keeps hfam hop hx hs

theorem exec_dc_pinsInv (hfam : familyOf i.op = .dc) (hx : exec i s = .next t) (hs : PinsInv s.params s.spi s.dc) :
    PinsInv t.params t.spi t.dc := by
  by_cases hop : i.op = .dcInit
  · cases i with
    | dcInit mode order csPin policy lowVal lowDir dcPin rstPin highVal highDir =>
      rcases exec_dcInit_cases hx with rfl | ⟨hcs, hdc, rfl | rfl⟩
      · exact hs
      · simpa [PinsInv, State.dcInitSent] using And.intro ((legalCsPin_iff _ _).mp hcs) ((legalDcPins_iff _ _).mp hdc)
      · simp [PinsInv, State.dcInitSent]
    | _ => simp [Instr.op] at hop
  · exact dcKept_pinsInv.exec_keeps hfam hop hx hs

theorem exec_keeps_pinsInv (hx : exec i s = .next t) (hs : PinsInv s.params s.spi s.dc) :
    PinsInv t.params t.spi t.dc := by
  cases hfam : familyOf i.op with
  | function => obtain ⟨r, rfl⟩ := exec_function_respond hfam hx; exact hs
  | enc => obtain ⟨bs, r, rfl⟩ := exec_enc_enqueue hfam hx; exact hs
  | i2c =>
    have h := exec_i2c_i2cFixed hfam hx
    exact (congrArg (fun u : State => PinsInv u.params u.spi u.dc) h).mpr hs
  | spi => exact exec_spi_pinsInv hfam hx hs
  | dc => exact exec_dc_pinsInv hfam hx hs
  | xp =>
    have h := exec_xp_xpFixed hfam hx
    exact (congrArg (fun u : State => PinsInv u.params u.spi u.dc) h).mpr hs

/-! ## A step, and the reset -/

theorem exec_keeps_inv (hx : exec i s = .next t) (hs : s.inv) : t.inv := by
  obtain ⟨hi2c, hpins⟩ := s.inv_iff.mp hs
  exact t.inv_iff.mpr ⟨exec_keeps_i2cInv hx hi2c, exec_keeps_pinsInv hx hpins⟩

/-- What is taken off a port leaves the registers as they are. -/
theorem takeNext_inv (h : takeNext s = .instr i t) (hs : s.inv) : t.inv := by
  rcases takeNext_cases s with ⟨-, -, hnext⟩ | ⟨-, -, hnext⟩ | ⟨-, hnext⟩
  · rw [hnext] at h; cases h
  · rw [hnext, takeRequest] at h
    split at h <;> cases h
    exact hs
  · rw [hnext, takeFunctionCall] at h
    split at h <;> cases h
    exact hs

end

/-- Settles O53: what a step takes leaves the registers alone, and every instruction keeps the two parts of the
invariant. -/
theorem stepKeepsTheInvariant : Obligations.StepKeepsTheInvariant := by
  intro s t hs hstep
  rw [step] at hstep
  split at hstep
  · cases hstep; exact hs
  · cases hstep
  · exact exec_keeps_inv hstep (takeNext_inv ‹_› hs)

/-- Settles O55: the fields of the reset records, and what a block reset leaves of the transport's. -/
theorem resetValuesOfTheSpec : Obligations.ResetValuesOfTheSpec :=
  ⟨rfl, rfl, rfl, rfl, rfl, rfl, rfl, fun s => ⟨congrArg I2c.ready s.blockReset_i2c, congrArg I2c.fsm s.blockReset_i2c,
    congrArg Spi.ready s.blockReset_spi, congrArg Dc.present s.blockReset_dc, s.blockReset_xp_cb, s.blockReset_xp_rxq,
    s.blockReset_xp_wire⟩⟩

end Sys2Proof.Machine
end

section
/-! PROOFS. The transport port (R63, R64, R66): what a flush and a read do as a whole request, and how many bytes a
flush brings. -/

namespace Sys2Proof.Machine

/-- Where `WIRE` and `CB` are whole commands, the bytes that arrive are supplied one for each response owed (R123). -/
theorem arrivals_eq_supply {s : State} {m n : Nat} (hwire : responseTotal s.params s.xp.wire = some m)
    (hall : responseTotal s.params (s.xp.wire ++ s.xp.cb) = some (m + n)) :
    s.arrivals = supply (Config.responseByte s.calls s.history) n 0 s.answer.bytes := by
  simp only [State.arrivals, hwire, hall, Nat.add_sub_cancel_left]

/-- The response bytes of two runs of whole commands add up (R99, R123). -/
theorem responseTotal_append_some {p : Params} {as bs : Bytes} {m n : Nat} (ha : responseTotal p as = some m)
    (hb : responseTotal p bs = some n) : responseTotal p (as ++ bs) = some (m + n) := by
  simp [responseTotal_append ha, hb]

/-- Settles O18: what `CB` owes is supplied, and `supply` takes the environment's bytes first. -/
theorem flushBringsExactlyTheOwedBytes : Obligations.FlushBringsExactlyTheOwedBytes := by
  intro s m n hwire hcb
  rw [arrivals_eq_supply hwire (responseTotal_append_some hwire hcb)]
  exact ⟨supply_length _ n 0 _, supply_of_le _ n 0 _⟩

theorem exec_xpExecute (s : State) :
    exec .xpExecute s = .next (respondWith (andThen executeBuffer (fun _ => ret .unit) s)) := rfl

theorem exec_xpRead (n : Nat) (s : State) :
    exec (.xpRead n) s = .next (respondWith (andThen (read n) (fun r => ret (.bytes r)) s)) := rfl

/-- Settles O16, by the two ends of a flush. -/
theorem xpExecuteDeliversOrFails : Obligations.XpExecuteDeliversOrFails := by
  intro s
  refine ⟨fun hok => ?_, fun hlost => ?_⟩
  · rw [exec_xpExecute, andThen_of_done (executeBuffer_of_ok hok)]; rfl
  · rw [exec_xpExecute, andThen_of_raised (executeBuffer_of_lost hlost)]; rfl

theorem State.readOk_iff (s : State) (n : Nat) : s.readOk n = true ↔ s.answer.ok = true ∧ n ≤ s.xp.rxq.length := by
  simp [State.readOk]

/-- Settles O17, by the three ends of a read. -/
theorem xpReadTakesTheFrontOrFails : Obligations.XpReadTakesTheFrontOrFails := by
  intro s
  refine ⟨rfl, fun n hn hok hle => ?_, fun n hn hlost => ?_⟩
  · have hread : s.readOk n = true := (s.readOk_iff n).mpr ⟨hok, hle⟩
    rw [exec_xpRead, andThen_of_done (read_of_ok (by omega) hread)]; rfl
  · have hread : s.readOk n = false := by
      rw [Bool.eq_false_iff, Ne, s.readOk_iff]
      rintro ⟨hok, hle⟩
      rcases hlost with hlost | hlost
      · simp [hlost] at hok
      · omega
    rw [exec_xpRead, andThen_of_raised (read_of_lost (by omega) hread)]; rfl

end Sys2Proof.Machine
end

section
/-! PROOFS. The response bytes that the named sequences and the pin and transfer commands owe (R123), and the transfer
commands' bytes as the rules lay them out (R94). -/

namespace Sys2Proof.Machine

/-! ## Length fields and formats -/

/-- The length field of a byte transfer, low byte first (R94, R98). -/
theorem wireLen_eq (len : Nat) :
    wireLen len = [BitVec.ofNat 8 ((len - 1) % 256), BitVec.ofNat 8 ((len - 1) / 256)] := by
  have hlo : lo8 (BitVec.ofNat 16 (len - 1)) = BitVec.ofNat 8 ((len - 1) % 256) := by
    apply BitVec.eq_of_toNat_eq
    simp only [lo8, BitVec.extractLsb'_toNat, BitVec.toNat_ofNat, Nat.shiftRight_zero]
    omega
  have hhi : hi8 (BitVec.ofNat 16 (len - 1)) = BitVec.ofNat 8 ((len - 1) / 256) := by
    apply BitVec.eq_of_toNat_eq
    simp only [hi8, BitVec.extractLsb'_toNat, BitVec.toNat_ofNat, Nat.shiftRight_eq_div_pow]
    omega
  rw [wireLen, leHalf, hlo, hhi]

theorem memRead_length {payload : Bytes} {off n : Nat} (h : off + n ≤ payload.length) :
    (memRead payload off n).length = n := by
  rw [memRead, List.length_take, List.length_drop]
  omega

/-- A sub-range command whose length is legal and inside the payload is the byte transfer of the sub-range (R94). -/
theorem formatY_of_legal (p : Params) (c : Cmd) {payload : Bytes} {off n : Nat} (h1 : 1 ≤ n) (h2 : n ≤ 65536)
    (hin : off + n ≤ payload.length) :
    formatY p c payload off n = .ok (transferBytes p c (memRead payload off n)) := by
  have hlegal : legalByteCount n = true := by simp [legalByteCount, h1, h2]
  have hinside : insidePayload payload off n = true := by simp [insidePayload, hin]
  rw [formatY, if_pos hlegal, if_pos hinside, transferBytes, memRead_length hin, byteHeader, wireLen_eq]
  rfl

/-! ## Chip-select brackets -/

/-- The chip-select command of a level a policy gives, if it gives one (R234). -/
def managedBytes (s : State) (l : Option Bit) : Bytes :=
  match l with
  | none => []
  | some l => csCmd s l

theorem openBytes_eq (s : State) : openBytes s = managedBytes s (enableLevel s.spi.policy) := by
  rw [openBytes]
  cases s.spi.policy <;> rfl

theorem closeBytes_eq (s : State) : closeBytes s = managedBytes s (disableLevel s.spi.policy) := by
  rw [closeBytes]
  cases s.spi.policy <;> rfl

/-! ## Owed bytes of runs of commands -/

theorem responseTotal_flatMap {α : Type} {p : Params} {xs : List α} {g : α → Bytes} {n : α → Nat}
    (h : ∀ x ∈ xs, responseTotal p (g x) = some (n x)) :
    responseTotal p (xs.flatMap g) = some (xs.map n).sum := by
  induction xs with
  | nil => rfl
  | cons x xs ih =>
    obtain ⟨hx, hxs⟩ := List.forall_mem_cons.mp h
    exact responseTotal_append_some hx (ih hxs)

/-- A run of commands that owe `k` bytes each. -/
theorem responseTotal_flatMap_const {α : Type} {p : Params} {xs : List α} {g : α → Bytes} {k : Nat}
    (h : ∀ x ∈ xs, responseTotal p (g x) = some k) : responseTotal p (xs.flatMap g) = some (xs.length * k) := by
  rw [responseTotal_flatMap h, List.map_const', List.sum_replicate, smul_eq_mul]

section
variable {p : Params} (h : p.opc.toList.Nodup)
include h

theorem responseTotal_hold (ls : LineState) : responseTotal p (hold p ls) = some 0 :=
  responseTotal_twoOperands h (.inl rfl) _ _

theorem responseTotal_rep_hold (k : Nat) (ls : LineState) : responseTotal p (rep k (hold p ls)) = some 0 := by
  induction k with
  | zero => rfl
  | succ k ih => exact responseTotal_append_some (responseTotal_hold h ls) ih

theorem responseTotal_immediateBytes : responseTotal p (immediateBytes p) = some 0 := by
  rw [immediateBytes]
  split
  · exact responseTotal_plain h rfl
  · rfl

theorem responseTotal_i2cInitSeq (div : Half) : responseTotal p (i2cInitSeq p div) = some 0 := by
  have hplain {c : Cmd} (hc : c.format = .N) (hresp : respCount c 0 = 0) : responseTotal p (formatN p c) = some 0 := by
    rw [← hresp]; exact responseTotal_plain h hc
  have hdiv : responseTotal p (encSetClockDivisor p div) = some 0 := responseTotal_twoOperands h (.inr rfl) _ _
  have h1 := responseTotal_append_some (hplain (c := .clkDiv5Disable) rfl rfl)
    (hplain (c := .adaptiveDisable) rfl rfl)
  have h2 := responseTotal_append_some (responseTotal_append_some h1 (hplain (c := .threePhaseEnable) rfl rfl)) hdiv
  have h3 := responseTotal_append_some h2 (hplain (c := .loopbackDisconnect) rfl rfl)
  exact responseTotal_append_some h3 (responseTotal_hold h .idle)

/-- A byte-out owes its acknowledgment bit (R190). -/
theorem responseTotal_i2cOutSeq (b : Byte) : responseTotal p (i2cOutSeq p b) = some 1 := by
  have hbyte : responseTotal p (legalBytes (encBytesOutMinusMsb p [b] 0 1)) = some 0 :=
    responseTotal_byteTransfer h (.inl rfl) (lo := 0) (hi := 0) (bs := [b]) rfl
  have hbit : responseTotal p (legalBytes (encBitsInPlusMsb p 1)) = some 1 :=
    responseTotal_bitsIn h rfl (g := 0) (by decide)
  have hout := responseTotal_append_some (responseTotal_hold h .ll) hbyte
  exact responseTotal_append_some (responseTotal_append_some hout (responseTotal_hold h .clDr)) hbit

/-- A byte-in owes its byte (R192). -/
theorem responseTotal_i2cInSeq (a : Bool) : responseTotal p (i2cInSeq p a) = some 1 := by
  have hbyte : responseTotal p (legalBytes (encBytesInPlusMsb p 1)) = some 1 :=
    responseTotal_bytesIn h (c := .bytesInPlusMsb) rfl 0 0
  have hbit : responseTotal p (legalBytes (encBitsOutMinusMsb p (ackByte a) 1)) = some 0 :=
    responseTotal_bitTransfer h (.inl rfl) (g := 0) (by decide) (ackByte a)
  have hin := responseTotal_append_some (responseTotal_hold h .clDr) hbyte
  exact responseTotal_append_some (responseTotal_append_some hin (responseTotal_hold h .ll)) hbit

theorem responseTotal_transferBytes {c : Cmd} (hc : c.format = .YO ∨ c.format = .YIO) {bs : Bytes}
    (h1 : 1 ≤ bs.length) (h2 : bs.length ≤ 65536) :
    responseTotal p (transferBytes p c bs) = some (respCount c bs.length) :=
  responseTotal_byteTransfer h hc (halfOf_lengthBytes h1 h2)

end

section
variable {s : State} (h : s.params.opc.toList.Nodup)
include h

theorem responseTotal_i2cStartSeq : responseTotal s.params (i2cStartSeq s) = some 0 :=
  responseTotal_append_some
    (responseTotal_append_some (responseTotal_rep_hold h _ .hh) (responseTotal_rep_hold h _ .chDl))
    (responseTotal_hold h .ll)

theorem responseTotal_i2cStopSeq : responseTotal s.params (i2cStopSeq s) = some 0 :=
  responseTotal_append_some
    (responseTotal_append_some (responseTotal_rep_hold h _ .ll) (responseTotal_rep_hold h _ .chDl))
    (responseTotal_rep_hold h _ .idle)

theorem responseTotal_csCmd (l : Bit) : responseTotal s.params (csCmd s l) = some 0 :=
  responseTotal_twoOperands h (.inl rfl) _ _

theorem responseTotal_dcCmd (l : Bit) (rst : Rst) : responseTotal s.params (dcCmd s l rst) = some 0 :=
  responseTotal_twoOperands h (.inl rfl) _ _

theorem responseTotal_managedBytes (l : Option Bit) : responseTotal s.params (managedBytes s l) = some 0 := by
  cases l with
  | none => rfl
  | some l => exact responseTotal_csCmd h l

theorem responseTotal_openBytes : responseTotal s.params (openBytes s) = some 0 := by
  rw [openBytes_eq]
  exact responseTotal_managedBytes h _

theorem responseTotal_closeBytes : responseTotal s.params (closeBytes s) = some 0 := by
  rw [closeBytes_eq]
  exact responseTotal_managedBytes h _

omit h in
theorem writeCmd_format (s : State) : (writeCmd s).format = .YO := by
  rw [writeCmd]
  split <;> rfl

omit h in
theorem duplexCmd_format (s : State) : (duplexCmd s).format = .YIO := by
  rw [duplexCmd]
  split <;> rfl

/-- A write-only transfer owes nothing (R123). -/
theorem responseTotal_write {bs : Bytes} (h1 : 1 ≤ bs.length) (h2 : bs.length ≤ 65536) :
    responseTotal s.params (transferBytes s.params (writeCmd s) bs) = some 0 := by
  have hresp : respCount (writeCmd s) bs.length = 0 := by simp only [respCount, writeCmd_format]
  rw [responseTotal_transferBytes h (.inl (writeCmd_format s)) h1 h2, hresp]

/-- A duplex transfer owes a byte for each byte it sends (R123). -/
theorem responseTotal_duplex {bs : Bytes} (h1 : 1 ≤ bs.length) (h2 : bs.length ≤ 65536) :
    responseTotal s.params (transferBytes s.params (duplexCmd s) bs) = some bs.length := by
  have hresp : respCount (duplexCmd s) bs.length = bs.length := by simp only [respCount, duplexCmd_format]
  rw [responseTotal_transferBytes h (.inr (duplexCmd_format s)) h1 h2, hresp]

end

end Sys2Proof.Machine
end

section
/-! PROOFS. What a piece of a request sends: the bytes it passes to `enqueue` and the response bytes it leaves to be
read (R62 to R64, R75). A piece that fails in transport is bound by nothing here. -/

namespace Sys2Proof.Machine

/-! ## How a piece ends -/

/-- The piece `m`, run from `s`, ends with a value and a state of `Q`, with an error and a state of `E`, or with
TransportFailure. -/
def Ends {α : Type} (m : Req α) (s : State) (Q : α → State → Prop) (E : Error → State → Prop) : Prop :=
  match m s with
  | .done v t => Q v t
  | .raised e t => e ≠ .transportFailure → E e t

/-- No error but TransportFailure. -/
def NoError : Error → State → Prop := fun _ _ => False

namespace Ends
variable {α β : Type} {m : Req α} {s t : State} {Q : α → State → Prop} {E : Error → State → Prop}

theorem of_done {v : α} (h : m s = .done v t) (hQ : Q v t) : Ends m s Q E := by
  rw [Ends, h]; exact hQ

theorem of_raised {e : Error} (h : m s = .raised e t) (hE : e ≠ .transportFailure → E e t) : Ends m s Q E := by
  rw [Ends, h]; exact hE

theorem mono {Q' : α → State → Prop} {E' : Error → State → Prop} (h : Ends m s Q E) (hQ : ∀ v t, Q v t → Q' v t)
    (hE : ∀ e t, E e t → E' e t) : Ends m s Q' E' := by
  unfold Ends at h ⊢
  split <;> simp only [*] at h
  · exact hQ _ _ h
  · exact fun hne => hE _ _ (h hne)

theorem anyError (h : Ends m s Q NoError) : Ends m s Q E := h.mono (fun _ _ hQ => hQ) fun _ _ hE => hE.elim

theorem andThen {k : α → Req β} {R : β → State → Prop} (hm : Ends m s Q E) (hk : ∀ v t, Q v t → Ends (k v) t R E) :
    Ends (Machine.andThen m k) s R E := by
  unfold Ends Machine.andThen at *
  cases hr : m s with
  | done v t => simp only [hr] at hm; exact hk v t hm
  | raised e t => simp only [hr] at hm; exact hm

/-- What is done on failure is of no account where nothing but TransportFailure is raised. -/
theorem onFailure {f : State → State} (hm : Ends m s Q NoError) : Ends (Machine.onFailure m f) s Q E := by
  unfold Ends Machine.onFailure at *
  cases hr : m s with
  | done v t => simp only [hr] at hm; exact hm
  | raised e t => simp only [hr] at hm; exact fun hne => (hm hne).elim

end Ends

/-! ## What is enqueued and what is owed -/

/-- The registers no request but an Init or I2C.SetTiming changes, the others fixed. -/
def State.settings (s : State) : State := s.levelsFixed.setFsm .idle

/-- `n` response bytes wait unread; everything delivered is whole commands; what awaits delivery owes nothing. -/
def State.Balanced (s : State) (n : Nat) : Prop :=
  s.xp.rxq.length = n ∧ (responseTotal s.params s.xp.wire).isSome = true ∧
  responseTotal s.params s.history = responseTotal s.params s.xp.wire

theorem State.accounted_iff (s : State) : s.accounted ↔ s.Balanced 0 := by
  rw [State.Balanced, List.length_eq_zero_iff]; rfl

/-- From `s` to `t` the bytes `bs` have been enqueued and nothing else; where the responses were accounted for, `n`
response bytes are left to be read. -/
structure Carried (s : State) (bs : Bytes) (n : Nat) (t : State) : Prop where
  params : t.params = s.params
  history : t.history = s.history ++ bs
  balanced : s.params.opc.toList.Nodup → s.Balanced 0 → t.Balanced n

/-- Also the settings are as they were. -/
structure Ran (s : State) (bs : Bytes) (n : Nat) (t : State) : Prop extends Carried s bs n t where
  settings : t.settings = s.settings

/-- From `s` to `t` the bytes `bs` have been enqueued, no transport call was made, and the settings are as they were. -/
structure Queued (s : State) (bs : Bytes) (t : State) : Prop where
  xp : t.xp = { s.xp with cb := s.xp.cb ++ bs }
  settings : t.settings = s.settings

theorem Queued.refl (s : State) : Queued s [] s := ⟨by simp, rfl⟩

theorem Queued.params {s t : State} {bs : Bytes} (h : Queued s bs t) : t.params = s.params :=
  congrArg (·.params) h.settings

theorem Queued.trans {s t u : State} {as bs : Bytes} (h : Queued s as t) (h' : Queued t bs u) : Queued s (as ++ bs) u :=
  ⟨by rw [h'.xp, h.xp, List.append_assoc], h'.settings.trans h.settings⟩

theorem Carried.refl (s : State) : Carried s [] 0 s := ⟨rfl, (List.append_nil _).symm, fun _ h => h⟩

theorem Carried.respond {s t : State} {bs : Bytes} {n : Nat} (h : Carried s bs n t) (r : Response) :
    Carried s bs n (t.respond r) := ⟨h.params, h.history, h.balanced⟩

theorem Ran.refl (s : State) : Ran s [] 0 s := ⟨Carried.refl s, rfl⟩

theorem Ran.trans {s t u : State} {as bs : Bytes} {n : Nat} (h : Ran s as 0 t) (h' : Ran t bs n u) :
    Ran s (as ++ bs) n u where
  params := h'.params.trans h.params
  history := by rw [h'.history, h.history, List.append_assoc]
  balanced hp hs := h'.balanced (h.params ▸ hp) (h.balanced hp hs)
  settings := h'.settings.trans h.settings

/-- Whole commands that owe nothing may wait for a later flush. -/
theorem Queued.ran {s t : State} {bs : Bytes} (h : Queued s bs t)
    (hbs : s.params.opc.toList.Nodup → responseTotal s.params bs = some 0) : Ran s bs 0 t where
  params := h.params
  history := by simp [State.history, h.xp]
  balanced hp hs := by
    obtain ⟨hrxq, hwire, hcb⟩ := hs
    obtain ⟨m, hm⟩ := Option.isSome_iff_exists.mp hwire
    have hparams : t.params = s.params := h.params
    have hall : responseTotal s.params (s.xp.wire ++ s.xp.cb ++ bs) = some m :=
      responseTotal_append_some (hcb.trans hm) (hbs hp)
    refine ⟨by rw [h.xp]; exact hrxq, by rw [h.xp, hparams]; exact hwire, ?_⟩
    rw [State.history, h.xp, hparams, hm, ← hall, List.append_assoc]
  settings := h.settings

/-- What is queued and then delivered leaves the response bytes its commands owe to be read (R63, R123). -/
theorem Carried.of_flushed {s u : State} {bs : Bytes} {n : Nat} (hxp : u.xp = { s.xp with cb := s.xp.cb ++ bs })
    (hparams : u.params = s.params) (hbs : s.params.opc.toList.Nodup → responseTotal s.params bs = some n) :
    Carried s bs n u.flushed where
  params := hparams
  history := by simp [State.history, hxp]
  balanced hp hs := by
    obtain ⟨hrxq, hwire, hcb⟩ := hs
    obtain ⟨m, hm⟩ := Option.isSome_iff_exists.mp hwire
    have hall : responseTotal u.params (u.xp.wire ++ u.xp.cb) = some (m + n) := by
      rw [hxp, hparams, ← List.append_assoc]
      exact responseTotal_append_some (hcb.trans hm) (hbs hp)
    have hbefore : responseTotal u.params u.xp.wire = some m := by rw [hxp, hparams]; exact hm
    refine ⟨?_, ?_, ?_⟩
    · rw [State.flushed_xp_rxq, arrivals_eq_supply hbefore hall, List.length_append, supply_length, hxp]
      simp [hrxq]
    · rw [State.flushed_params, State.flushed_xp_wire, hall]; rfl
    · simp [State.history]

/-- The bytes that wait are taken by a read of as many (R64). -/
theorem Ran.taken {s t : State} {bs : Bytes} {n : Nat} (h : Ran s bs n t) : Ran s bs 0 (t.taken n) where
  params := h.params
  history := h.history
  balanced hp hs := by
    obtain ⟨hrxq, hwhole⟩ := h.balanced hp hs
    exact ⟨by rw [State.taken_xp_rxq, List.length_drop, hrxq, Nat.sub_self], hwhole⟩
  settings := h.settings

/-! ## The transport calls -/

theorem Queued.ends_executeBuffer {s u : State} {bs : Bytes} {n : Nat} (h : Queued s bs u)
    (hbs : s.params.opc.toList.Nodup → responseTotal s.params bs = some n) :
    Ends executeBuffer u (fun _ t => Ran s bs n t) NoError := by
  rcases executeBuffer_cases u with ⟨-, hflush⟩ | ⟨-, hflush⟩
  · exact .of_done hflush ⟨.of_flushed h.xp (h.params) hbs, h.settings⟩
  · exact .of_raised hflush fun hne => absurd rfl hne

theorem Ran.ends_read {s t : State} {bs : Bytes} {n : Nat} (h : Ran s bs n t) :
    Ends (read n) t (fun _ u => Ran s bs 0 u) NoError := by
  rcases read_cases n t with ⟨rfl, hread⟩ | ⟨-, -, hread⟩ | ⟨-, -, hread⟩
  · exact .of_done hread h
  · exact .of_done hread h.taken
  · exact .of_raised hread fun hne => absurd rfl hne

/-! ## Pieces -/

/-- The value depends on the settings alone. -/
def Steady {β : Type} (f : State → β) : Prop := ∀ s, f s.settings = f s

theorem Steady.congr {β : Type} {f : State → β} (hf : Steady f) {s t : State} (h : t.settings = s.settings) :
    f t = f s := by
  rw [← hf t, h, hf s]

/-- The piece enqueues the bytes `f` gives, makes no transport call and cannot fail. -/
def Queues {α : Type} (m : Req α) (f : State → Bytes) : Prop := ∀ s, ∃ v t, m s = .done v t ∧ Queued s (f s) t

/-- The piece enqueues the bytes `f` gives and leaves `n` response bytes to be read; it raises only
TransportFailure. -/
def Sends {α : Type} (n : Nat) (m : Req α) (f : State → Bytes) : Prop :=
  ∀ s, Ends m s (fun _ t => Ran s (f s) n t) NoError

section
variable {α β : Type} {m : Req α} {f g : State → Bytes} {n : Nat}

theorem Queues.ret (v : α) : Queues (ret v) fun _ => [] := fun s => ⟨v, s, rfl, Queued.refl s⟩

/-- A register write of the settings' complement, and an `enqueue` with it. -/
theorem Queues.update {u : State → State} (hxp : ∀ s, (u s).xp = { s.xp with cb := s.xp.cb ++ f s })
    (hset : ∀ s, (u s).settings = s.settings) : Queues (update u) f :=
  fun s => ⟨(), u s, rfl, hxp s, hset s⟩

theorem queues_enqueueOf (f : State → Bytes) : Queues (update fun s => s.enqueue (f s)) f :=
  .update (fun _ => rfl) fun _ => rfl

theorem Queues.andThen {k : α → Req β} (hm : Queues m f) (hk : ∀ v, Queues (k v) g)
    (hg : Steady g := by exact fun _ => rfl) : Queues (andThen m k) fun s => f s ++ g s := by
  intro s
  obtain ⟨v, t, hrun, ht⟩ := hm s
  obtain ⟨w, u, hrun', hu⟩ := hk v t
  rw [hg.congr ht.settings] at hu
  exact ⟨w, u, (andThen_of_done hrun k).trans hrun', ht.trans hu⟩

/-- A piece that enqueues nothing adds nothing. -/
theorem Queues.thenQuiet {k : α → Req β} (hm : Queues m f) (hk : ∀ v, Queues (k v) fun _ => []) :
    Queues (Machine.andThen m k) f := by
  simpa only [List.append_nil] using hm.andThen hk

theorem Queues.forEach {γ : Type} {xs : List γ} {k : γ → Req Unit} {g : γ → State → Bytes}
    (hk : ∀ x ∈ xs, Queues (k x) (g x)) (hg : ∀ x, Steady (g x) := by exact fun _ _ => rfl) :
    Queues (forEach xs k) fun s => xs.flatMap fun x => g x s := by
  induction xs with
  | nil => exact .ret ()
  | cons x xs ih =>
    obtain ⟨hx, hxs⟩ := List.forall_mem_cons.mp hk
    refine hx.andThen (fun _ => ih hxs) fun s => ?_
    simp only [funext fun x => hg x s]

theorem Queues.sends (h : Queues m f) (hf : ∀ s, s.params.opc.toList.Nodup → responseTotal s.params (f s) = some 0) :
    Sends 0 m f := by
  intro s
  obtain ⟨v, t, hrun, ht⟩ := h s
  exact .of_done hrun (ht.ran (hf s))

theorem Queues.thenFlush (h : Queues m f)
    (hf : ∀ s, s.params.opc.toList.Nodup → responseTotal s.params (f s) = some n) :
    Sends n (Machine.andThen m fun _ => executeBuffer) f := by
  intro s
  obtain ⟨v, t, hrun, ht⟩ := h s
  rw [Ends, andThen_of_done hrun]
  exact ht.ends_executeBuffer (hf s)

theorem Sends.of_eq (h : Sends n m f) (hfg : ∀ s, f s = g s) : Sends n m g := funext hfg ▸ h

theorem Sends.andThen {k : α → Req β} (hm : Sends 0 m f) (hk : ∀ v, Sends n (k v) g)
    (hg : Steady g := by exact fun _ => rfl) : Sends n (Machine.andThen m k) fun s => f s ++ g s := by
  intro s
  refine (hm s).andThen fun v t ht => (hk v t).mono (fun _ u hu => ?_) fun _ _ h => h
  rw [hg.congr ht.settings] at hu
  exact ht.trans hu

/-- A result computed at the end. -/
theorem Sends.thenRet {v : α → β} (hm : Sends n m f) : Sends n (Machine.andThen m fun a => Machine.ret (v a)) f :=
  fun s => (hm s).andThen fun _ _ ht => .of_done rfl ht

theorem Sends.thenRead (hm : Sends n m f) : Sends 0 (Machine.andThen m fun _ => read n) f :=
  fun s => (hm s).andThen fun _ _ ht => ht.ends_read

end

/-! ## Requests -/

/-- The bytes a request that ended with `r` has enqueued: those of its rule, nothing on InvalidArgument (R307). -/
def enqueuedOn (f : Response → Bytes) (r : Response) : Bytes := if r = .error .invalidArgument then [] else f r

/-- The request `m`, from `s`, enqueues the bytes its rule gives for its response and reads every response byte. -/
def Answers (m : Req Result) (s : State) (f : Response → Bytes) : Prop :=
  Ends m s (fun v t => Ran s (f (.ok v)) 0 t) fun e t => Ran s (enqueuedOn f (.error e)) 0 t

theorem Answers.of_invalidArgument (s : State) (f : Response → Bytes) : Answers (raise .invalidArgument) s f :=
  .of_raised rfl fun _ => Ran.refl s

/-- An error raised before anything is enqueued. -/
theorem Answers.of_raise (e : Error) (s : State) {f : Response → Bytes} (hf : f (.error e) = []) :
    Answers (raise e) s f :=
  .of_raised rfl fun _ => by rw [enqueuedOn, hf, ite_self]; exact Ran.refl s

theorem Sends.answers {m : Req Result} {g : State → Bytes} (h : Sends 0 m g) (s : State) :
    Answers m s fun _ => g s :=
  (h s).mono (fun _ _ ht => ht) fun _ _ ht => ht.elim

theorem Answers.carried {m : Req Result} {s t : State} {f : Response → Bytes} (h : Answers m s f)
    (ht : t = respondWith (m s)) (hresp : t.resp ≠ .error .transportFailure) :
    Carried s (enqueuedOn f t.resp) 0 t := by
  subst ht
  unfold Answers Ends at h
  cases hr : m s with
  | done v u => simp only [hr] at h; exact h.toCarried.respond _
  | raised e u =>
    simp only [hr] at h hresp
    exact (h fun he => hresp (congrArg Response.error he)).toCarried.respond _

end Sys2Proof.Machine
end

section
/-! PROOFS. What the I2C requests send (R194 to R204): each piece's bytes, and the legs of a transaction whose
acknowledgments are tested. -/

namespace Sys2Proof.Machine

/-! ## Steps -/

theorem queues_goTo (f : Fsm) : Queues (goTo f) fun _ => [] := .update (fun s => by simp) fun _ => rfl

/-- A flush for at least one response byte carries the SendImmediate the parameter asks for (R183). -/
theorem queues_immediate {n : Nat} (hn : 1 ≤ n) :
    Queues (update fun s => if n ≥ 1 ∧ s.params.sendImmediate then s.enqueue (encSendImmediate s.params) else s)
      fun s => immediateBytes s.params := by
  refine .update (fun s => ?_) fun s => ?_
  · by_cases hp : s.params.sendImmediate = true
    · rw [if_pos ⟨hn, hp⟩, immediateBytes, if_pos hp]; rfl
    · rw [if_neg fun hc => hp hc.2, immediateBytes, if_neg hp, List.append_nil]
  · split <;> rfl

/-- A sequence is enqueued, `I2C_FSM` moved, and the bytes flushed with a SendImmediate and their `n` responses read
(R183, R196, R198, R203, R204). -/
theorem sends_flushExpect {β : Type} {seq : State → Bytes} {f : Fsm} {n : Nat} {k : Bytes → Req β} (hn : 1 ≤ n)
    (hseq : ∀ s, s.params.opc.toList.Nodup → responseTotal s.params (seq s) = some n)
    (hk : ∀ r, Queues (k r) fun _ => []) :
    Sends 0 (andThen (update fun s => s.enqueue (seq s)) fun _ => andThen (goTo f) fun _ =>
      andThen (idleOnFailure (flushExpect n)) k) fun s => seq s ++ immediateBytes s.params := by
  have hqueued : Queues (andThen (update fun s => s.enqueue (seq s)) fun _ => goTo f) seq :=
    (queues_enqueueOf seq).thenQuiet fun _ => queues_goTo f
  intro s
  obtain ⟨v, t, hrun, ht⟩ := hqueued s
  have hflush : Ends (flushExpect n) t (fun _ u => Ran s (seq s ++ immediateBytes s.params) 0 u) NoError := by
    obtain ⟨w, u, hrun', hu⟩ := queues_immediate hn t
    simp only [ht.params] at hu
    rw [flushExpect, Ends, andThen_of_done hrun']
    refine ((ht.trans hu).ends_executeBuffer fun hp => ?_).andThen fun _ _ hu => hu.ends_read
    exact responseTotal_append_some (hseq s hp) (responseTotal_immediateBytes hp)
  rw [← andThen_assoc, Ends, andThen_of_done hrun]
  refine hflush.onFailure.andThen fun r u hu => ?_
  obtain ⟨w, u', hrun', hu'⟩ := hk r u
  have hran := hu.trans (hu'.ran fun _ => rfl)
  rw [List.append_nil] at hran
  exact .of_done hrun' hran

theorem queues_i2cStart : Queues i2cStart i2cStartSeq :=
  (queues_enqueueOf i2cStartSeq).thenQuiet fun _ => queues_goTo .started

theorem sends_i2cStart : Sends 0 i2cStart i2cStartSeq := queues_i2cStart.sends fun _ => responseTotal_i2cStartSeq

theorem sends_i2cStop : Sends 0 i2cStop i2cStopSeq := by
  have hqueued : Queues (andThen (update fun s => s.enqueue (i2cStopSeq s)) fun _ => goTo .stopped) i2cStopSeq :=
    (queues_enqueueOf i2cStopSeq).thenQuiet fun _ => queues_goTo .stopped
  intro s
  obtain ⟨v, t, hrun, ht⟩ := hqueued s
  rw [i2cStop, ← andThen_assoc, Ends, andThen_of_done hrun]
  refine (ht.ends_executeBuffer responseTotal_i2cStopSeq).onFailure.andThen fun _ u hu => ?_
  exact .of_done rfl ⟨⟨hu.params, hu.history, hu.balanced⟩, hu.settings⟩

theorem sends_i2cSendByte (b : Byte) : Sends 0 (i2cSendByte b) fun s => sentBytes s.params [b] :=
  Sends.of_eq (sends_flushExpect (f := .byteOut) Nat.one_pos (fun _ hp => responseTotal_i2cOutSeq hp b)
    fun r => .ret (acked (r.headD 0))) fun _ => (List.flatMap_singleton _ _).symm

theorem sends_i2cReceiveByte (a : Bool) :
    Sends 0 (i2cReceiveByte a) fun s => i2cInSeq s.params a ++ immediateBytes s.params :=
  sends_flushExpect (f := .byteIn) Nat.one_pos (fun _ hp => responseTotal_i2cInSeq hp a) fun r => .ret (r.headD 0)

theorem sends_fastBatch {seq : State → Bytes} {n : Nat} (hn : 1 ≤ n)
    (hseq : ∀ s, s.params.opc.toList.Nodup → responseTotal s.params (seq s) = some n) :
    Sends 0 (fastBatch seq n) fun s => seq s ++ immediateBytes s.params :=
  sends_flushExpect hn hseq fun r => (queues_goTo .idle).andThen fun _ => .ret r

/-! ## Runs of steps -/

/-- All byte-ins of a read but the last are acknowledged: `n + 1` of them are one and those of a read of `n`
(R202). -/
theorem range_flatMap_last (g : Bool → Bytes) (n : Nat) :
    ((List.range (n + 1)).flatMap fun i => g (decide (i + 1 < n + 1))) =
      g (decide (0 < n)) ++ (List.range n).flatMap fun i => g (decide (i + 1 < n)) := by
  simp [List.range_succ_eq_map, List.flatMap_map]

theorem sends_i2cReadData (n : Nat) : Sends 0 (i2cReadData n) fun s => receivedBytes s.params n := by
  induction n with
  | zero => exact (Queues.ret _).sends fun _ _ => rfl
  | succ m ih =>
    have hsucc (p : Params) : receivedBytes p (m + 1) =
        (i2cInSeq p (decide (0 < m)) ++ immediateBytes p) ++ receivedBytes p m :=
      range_flatMap_last (fun a => i2cInSeq p a ++ immediateBytes p) m
    simp only [hsucc]
    exact (sends_i2cReceiveByte _).andThen fun _ => ih.thenRet

/-- The address byte of a probe, as R199 numbers the addresses (R191). -/
theorem frame_write (a : Nat) : frame (BitVec.ofNat 7 a) .zero = BitVec.ofNat 8 (2 * a) := by
  apply BitVec.eq_of_toNat_eq
  simp [frame, bitByte, Nat.shiftLeft_eq]
  omega

/-- The bytes of one probe of I2C.Scan (R199). -/
def probeBytes (s : State) (a : Nat) : Bytes :=
  i2cStartSeq s ++ i2cOutSeq s.params (BitVec.ofNat 8 (2 * a)) ++ immediateBytes s.params ++ i2cStopSeq s

theorem sends_i2cProbe (a : Nat) : Sends 0 (i2cProbe (BitVec.ofNat 7 a)) fun s => probeBytes s a := by
  have hprobe := sends_i2cStart.andThen fun _ => (sends_i2cSendByte (frame (BitVec.ofNat 7 a) .zero)).andThen
    fun ack => sends_i2cStop.thenRet (v := fun _ => ack)
  exact hprobe.of_eq fun s => by simp [sentBytes, probeBytes, frame_write]

theorem sends_i2cScanFrom (a count : Nat) :
    Sends 0 (i2cScanFrom a count) fun s => (List.range' a count).flatMap (probeBytes s) := by
  induction count generalizing a with
  | zero => exact (Queues.ret _).sends fun _ _ => rfl
  | succ n ih => exact (sends_i2cProbe a).andThen fun _ => (ih (a + 1)).thenRet

theorem scanBytes_eq (s : State) : scanBytes s = (List.range' 1 126).flatMap (probeBytes s) := by
  rw [List.range'_eq_map_range, List.flatMap_map]
  simp only [Nat.add_comm 1]
  rfl

/-! ## Transactions whose acknowledgments are tested -/

/-- The transaction `m` enqueues the legs that `legs` gives and then `tail`; after each leg it may instead abort, the
first leg with ProtocolNack(k), with no more than the STOP sequence (R200 to R202). -/
def Transacts {α : Type} (k : Nat) (legs : State → List Bytes) (tail : State → Bytes) (m : Req α) : Prop :=
  ∀ s, Ends m s (fun _ t => Ran s ((legs s).flatten ++ tail s) 0 t) fun e t =>
    ∃ j, e = .protocolNack (k + j) ∧ Ran s (((legs s).take (j + 1)).flatten ++ i2cStopSeq s) 0 t

theorem ends_nackAbort {α : Type} {Q : α → State → Prop} (k : Nat) (s : State) :
    Ends (nackAbort k) s Q fun e t => e = .protocolNack k ∧ Ran s (i2cStopSeq s) 0 t :=
  (sends_i2cStop s).anyError.andThen fun _ _ ht => .of_raised rfl fun _ => ⟨rfl, ht⟩

theorem andThen_nackAbort {α β : Type} (k : Nat) (next : α → Req β) : andThen (nackAbort k) next = nackAbort k := by
  simp only [nackAbort, andThen_assoc, andThen_raise]

namespace Transacts
variable {α β : Type} {k : Nat} {legs : State → List Bytes} {f first tail : State → Bytes}

/-- What follows the last leg. -/
theorem of_sends {m : Req α} (h : Sends 0 m tail) : Transacts k (fun _ => []) tail m :=
  fun s => (h s).anyError

/-- A leg, after which the transaction goes on or aborts. -/
theorem leg {m : Req α} {next : α → Req β} {rest : Req β} (hm : Sends 0 m f)
    (hnext : ∀ v t, next v t = rest t ∨ next v t = nackAbort k t) (hrest : Transacts (k + 1) legs tail rest)
    (hlegs : Steady legs := by exact fun _ => rfl) (htail : Steady tail := by exact fun _ => rfl) :
    Transacts k (fun s => f s :: legs s) tail (andThen m next) := by
  intro s
  refine (hm s).anyError.andThen fun v t ht => ?_
  have hstop : i2cStopSeq t = i2cStopSeq s := Steady.congr (f := i2cStopSeq) (fun _ => rfl) ht.settings
  rcases hnext v t with hgo | habort
  · rw [Ends, hgo]
    refine (hrest t).mono (fun _ u hu => ?_) fun e u ⟨j, he, hu⟩ => ⟨j + 1, ?_, ?_⟩
    · rw [hlegs.congr ht.settings, htail.congr ht.settings] at hu
      simpa using ht.trans hu
    · rw [he]; congr 1; omega
    · rw [hlegs.congr ht.settings, hstop] at hu
      simpa using ht.trans hu
  · rw [Ends, habort]
    refine (ends_nackAbort k t).mono (fun _ _ hu => hu) fun e u ⟨he, hu⟩ => ⟨0, he, ?_⟩
    rw [hstop] at hu
    simpa using ht.trans hu

/-- A leg whose acknowledgment must come (R201, R202). -/
theorem expectAck {m : Req Bool} {rest : Req β} (hm : Sends 0 m f) (hrest : Transacts (k + 1) legs tail rest)
    (hlegs : Steady legs := by exact fun _ => rfl) (htail : Steady tail := by exact fun _ => rfl) :
    Transacts k (fun s => f s :: legs s) tail (andThen (Machine.expectAck k m) fun _ => rest) := by
  rw [Machine.expectAck, andThen_assoc]
  refine leg hm (fun ack t => ?_) hrest hlegs htail
  cases ack with
  | true => exact .inl rfl
  | false => exact .inr (congrFun (andThen_nackAbort k _) t)

/-- What is sent before a leg belongs to it. -/
theorem before {m : Req α} {rest : Req β} (hm : Sends 0 m f)
    (hrest : Transacts k (fun s => first s :: legs s) tail rest) (hfirst : Steady first := by exact fun _ => rfl)
    (hlegs : Steady legs := by exact fun _ => rfl) (htail : Steady tail := by exact fun _ => rfl) :
    Transacts k (fun s => (f s ++ first s) :: legs s) tail (andThen m fun _ => rest) := by
  intro s
  refine (hm s).anyError.andThen fun v t ht => ?_
  have hstop : i2cStopSeq t = i2cStopSeq s := Steady.congr (f := i2cStopSeq) (fun _ => rfl) ht.settings
  refine (hrest t).mono (fun _ u hu => ?_) fun e u ⟨j, he, hu⟩ => ⟨j, he, ?_⟩
  · simp only [hfirst.congr ht.settings, hlegs.congr ht.settings, htail.congr ht.settings] at hu
    simpa using ht.trans hu
  · simp only [hfirst.congr ht.settings, hlegs.congr ht.settings, hstop] at hu
    simpa using ht.trans hu

/-- The data bytes of I2C.Write, each a leg (R201). -/
theorem i2cWriteData {rest : Req β} (k : Nat) (data : Bytes) (hrest : ∀ k, Transacts k (fun _ => []) tail rest)
    (htail : Steady tail := by exact fun _ => rfl) :
    Transacts k (fun s => data.map fun b => sentBytes s.params [b]) tail
      (andThen (Machine.i2cWriteData k data) fun _ => rest) := by
  induction data generalizing k with
  | nil => exact hrest k
  | cons b data ih =>
    rw [Machine.i2cWriteData, andThen_assoc]
    refine leg (sends_i2cSendByte b) (fun ack t => ?_) (ih (k + 1)) (fun _ => rfl) htail
    rw [andThen_withState]
    split
    · exact .inr (congrFun (andThen_nackAbort k _) t)
    · exact .inl rfl

/-- As a request: the legs as far as the response says the transaction went, then the STOP sequence or the tail. -/
theorem answers {m : Req Result} {g : Response → Bytes} {s : State} (h : Transacts 0 legs tail m)
    (hok : ∀ v, g (.ok v) = (legs s).flatten ++ tail s)
    (hnack : ∀ j, g (.error (.protocolNack j)) = ((legs s).take (j + 1)).flatten ++ i2cStopSeq s) : Answers m s g := by
  refine (h s).mono (fun v t ht => hok v ▸ ht) ?_
  rintro _ t ⟨j, rfl, ht⟩
  rw [Nat.zero_add, enqueuedOn, if_neg nofun, hnack]
  exact ht

end Transacts

/-- I2C.Write as far as byte-out `k`, START included (R201). -/
theorem i2cWriteBytes_legs (s : State) (b : Byte) (bs : Bytes) (k : Nat) :
    (((i2cStartSeq s ++ sentBytes s.params [b]) :: bs.map fun c => sentBytes s.params [c]).take (k + 1)).flatten =
      i2cStartSeq s ++ sentBytes s.params ((b :: bs).take (k + 1)) := by
  simp [sentBytes, List.flatMap, ← List.map_take]

theorem answers_i2cWrite (s : State) (a7 : Addr7) (reg : Byte) (data : Bytes) :
    Answers (andThen i2cStart fun _ =>
      andThen (expectAck 0 (i2cSendAddress a7 .zero)) fun _ =>
      andThen (expectAck 1 (i2cSendByte reg)) fun _ =>
      andThen (i2cWriteData 2 data) fun _ =>
      andThen i2cStop fun _ => ret .unit) s (i2cWriteBytes s (frame a7 .zero :: reg :: data)) := by
  have hdata := Transacts.i2cWriteData 2 data
    (fun _ => Transacts.of_sends (sends_i2cStop.thenRet (v := fun _ => Result.unit)))
  have htransacts := (((hdata.expectAck (sends_i2cSendByte reg)).expectAck
    (sends_i2cSendByte (frame a7 .zero))).before sends_i2cStart)
  have hlegs := i2cWriteBytes_legs s (frame a7 .zero) (reg :: data)
  exact htransacts.answers (fun v => by simp [i2cWriteBytes, sentBytes, List.flatMap])
    fun j => (congrArg (· ++ i2cStopSeq s) (hlegs j)).symm

theorem answers_i2cRead (s : State) (a7 : Addr7) (reg : Byte) (n : Nat) :
    Answers (andThen i2cStart fun _ =>
      andThen (expectAck 0 (i2cSendAddress a7 .zero)) fun _ =>
      andThen (expectAck 1 (i2cSendByte reg)) fun _ =>
      andThen i2cStart fun _ =>
      andThen (expectAck 2 (i2cSendAddress a7 .one)) fun _ =>
      andThen (i2cReadData n) fun data =>
      andThen i2cStop fun _ => ret (.bytes data)) s (i2cReadBytes s a7 reg n) := by
  have htail := (sends_i2cReadData n).andThen fun data => sends_i2cStop.thenRet (v := fun _ => Result.bytes data)
  have hread := ((Transacts.of_sends htail).expectAck (k := 2) (sends_i2cSendByte (frame a7 .one))).before
    sends_i2cStart
  have htransacts := ((hread.expectAck (sends_i2cSendByte reg)).expectAck
    (sends_i2cSendByte (frame a7 .zero))).before sends_i2cStart
  exact htransacts.answers (fun v => by simp [i2cReadBytes, readHeader]) fun j => rfl

/-! ## The fast requests -/

/-- The acknowledgments of a batch are looked at when its bytes are sent (R203, R204). -/
theorem Sends.answers_nacks {α : Type} {m : Req α} {f : State → Bytes} (hm : Sends 0 m f) {k : α → Req Result}
    (hk : ∀ v t, (∃ r, k v t = .done r t) ∨ ∃ j, k v t = .raised (.protocolNack j) t) (s : State) :
    Answers (Machine.andThen m k) s fun _ => f s := by
  refine (hm s).anyError.andThen fun v t ht => ?_
  rcases hk v t with ⟨r, hr⟩ | ⟨j, hr⟩
  · exact .of_done hr ht
  · exact .of_raised hr fun _ => ht

theorem raiseNack_ends (k : Option Nat) (r : Result) (t : State) :
    (∃ v, andThen (raiseNack k) (fun _ => ret r) t = .done v t) ∨
    ∃ j, andThen (raiseNack k) (fun _ => ret r) t = .raised (.protocolNack j) t := by
  cases k with
  | none => exact .inl ⟨r, rfl⟩
  | some j => exact .inr ⟨j, rfl⟩

theorem responseTotal_fastWriteSeq {s : State} (h : s.params.opc.toList.Nodup) (a7 : Addr7) (reg : Byte)
    (data : Bytes) : responseTotal s.params (fastWriteSeq s a7 reg data) = some (2 + data.length) := by
  have hdata : responseTotal s.params (data.flatMap (i2cOutSeq s.params)) = some data.length := by
    simpa using responseTotal_flatMap_const (xs := data) fun b _ => responseTotal_i2cOutSeq h b
  have haddress := responseTotal_append_some (responseTotal_i2cStartSeq h) (responseTotal_i2cOutSeq h (frame a7 .zero))
  have hheader := responseTotal_append_some haddress (responseTotal_i2cOutSeq h reg)
  have hall := responseTotal_append_some (responseTotal_append_some hheader hdata) (responseTotal_i2cStopSeq h)
  exact hall

theorem inSeqs_eq (p : Params) (n : Nat) :
    inSeqs p n = (List.range n).flatMap fun i => i2cInSeq p (decide (i + 1 < n)) := by
  induction n with
  | zero => rfl
  | succ m ih => rw [inSeqs, ih, ← range_flatMap_last]

theorem fastReadBytes_eq (s : State) (a7 : Addr7) (reg : Byte) (n : Nat) :
    fastReadBytes s a7 reg n = fastReadSeq s a7 reg n ++ immediateBytes s.params := by
  rw [fastReadBytes, fastReadSeq, inSeqs_eq]

theorem responseTotal_fastReadSeq {s : State} (h : s.params.opc.toList.Nodup) (a7 : Addr7) (reg : Byte) (n : Nat) :
    responseTotal s.params (fastReadSeq s a7 reg n) = some (3 + n) := by
  have hdata : responseTotal s.params (inSeqs s.params n) = some n := by
    rw [inSeqs_eq, responseTotal_flatMap_const fun _ _ => responseTotal_i2cInSeq h _]
    simp
  have hstart := responseTotal_i2cStartSeq h
  have haddress := responseTotal_append_some hstart (responseTotal_i2cOutSeq h (frame a7 .zero))
  have hheader := responseTotal_append_some haddress (responseTotal_i2cOutSeq h reg)
  have hagain := responseTotal_append_some (responseTotal_append_some hheader hstart)
    (responseTotal_i2cOutSeq h (frame a7 .one))
  have hall := responseTotal_append_some (responseTotal_append_some hagain hdata) (responseTotal_i2cStopSeq h)
  exact hall

theorem answers_i2cFastWrite (s : State) (a7 : Addr7) (reg : Byte) (data : Bytes) :
    Answers (andThen (fastBatch (fun s => fastWriteSeq s a7 reg data) (2 + data.length)) fun r =>
      withState fun s =>
      andThen (raiseNack (firstNack (fun j => decide (j < 2) || s.params.checkDataAck) 0 r)) fun _ => ret .unit) s
      (fun _ => fastWriteBytes s a7 reg data) :=
  Sends.answers_nacks (sends_fastBatch (by omega) fun _ h => responseTotal_fastWriteSeq h a7 reg data)
    (fun _ _ => raiseNack_ends _ _ _) s

theorem answers_i2cFastRead (s : State) (a7 : Addr7) (reg : Byte) (n : Nat) :
    Answers (andThen (fastBatch (fun s => fastReadSeq s a7 reg n) (3 + n)) fun r =>
      andThen (raiseNack (firstNack (fun j => decide (j < 3)) 0 r)) fun _ => ret (.bytes (r.drop 3))) s
      (fun _ => fastReadBytes s a7 reg n) := by
  have hbatch : Sends 0 _ _ := sends_fastBatch (by omega) fun _ h => responseTotal_fastReadSeq h a7 reg n
  rw [fastReadBytes_eq]
  exact hbatch.answers_nacks (fun _ _ => raiseNack_ends _ _ _) s

/-! ## Requests -/

theorem Answers.of_i2cRequest {m : Req Result} {s t : State} {f : Response → Bytes} {allowed : Fsm → Bool}
    (h : Answers m s f) (hx : i2cRequest allowed m s = .next t) (hresp : t.resp ≠ .error .transportFailure) :
    Carried s (enqueuedOn f t.resp) 0 t := by
  obtain ⟨-, -, ht⟩ := i2cRequest_next hx
  exact h.carried ht hresp

/-- What has been rejected has enqueued nothing. -/
theorem Carried.of_rejected (s : State) (f : Response → Bytes) :
    Carried s (enqueuedOn f (.error .invalidArgument)) 0 (s.respond (.error .invalidArgument)) :=
  (Carried.refl s).respond _

theorem exec_i2c_carried {i : Instr} {s t : State} (hfam : familyOf i.op = .i2c) (hx : exec i s = .next t)
    (hresp : t.resp ≠ .error .transportFailure) : Carried s (enqueuedOn (enqueuedBy i s) t.resp) 0 t := by
  unfold exec at hx
  cases i with
  | i2cInit div t1 t2 t3 t4 t5 =>
    rcases exec_i2cInit_cases hx with rfl | ⟨-, rfl | rfl⟩
    · exact .of_rejected s _
    · have hsent : Carried s (i2cInitSeq s.params div) 0 (s.i2cInitSent div t1 t2 t3 t4 t5).flushed :=
        .of_flushed rfl rfl fun hp => responseTotal_i2cInitSeq hp div
      exact ⟨hsent.params, hsent.history, hsent.balanced⟩
    · exact absurd rfl hresp
  | i2cSetTiming t1 t2 t3 t4 t5 =>
    rcases exec_i2cSetTiming_cases hx with rfl | ⟨-, rfl⟩
    · exact .of_rejected s _
    · exact ⟨rfl, (Carried.refl s).history, fun _ h => h⟩
  | i2cStart => exact (sends_i2cStart.thenRet.answers s).of_i2cRequest hx hresp
  | i2cStop => exact (sends_i2cStop.thenRet.answers s).of_i2cRequest hx hresp
  | i2cSendByte b => exact ((sends_i2cSendByte b).thenRet.answers s).of_i2cRequest hx hresp
  | i2cSendAddress a7 rw => exact ((sends_i2cSendByte (frame a7 rw)).thenRet.answers s).of_i2cRequest hx hresp
  | i2cReceiveByte a => exact ((sends_i2cReceiveByte a).thenRet.answers s).of_i2cRequest hx hresp
  | i2cScan =>
    have hscan := ((sends_i2cScanFrom 1 126).of_eq fun s => (scanBytes_eq s).symm).thenRet (v := Result.addresses)
    exact (hscan.answers s).of_i2cRequest hx hresp
  | i2cWrite a7 reg data => exact (answers_i2cWrite s a7 reg data).of_i2cRequest hx hresp
  | i2cRead a7 reg n =>
    refine Answers.of_i2cRequest ?_ hx hresp
    split
    · exact .of_invalidArgument s _
    · exact answers_i2cRead s a7 reg n
  | i2cFastWrite a7 reg data => exact (answers_i2cFastWrite s a7 reg data).of_i2cRequest hx hresp
  | i2cFastRead a7 reg n =>
    refine Answers.of_i2cRequest ?_ hx hresp
    split
    · exact .of_invalidArgument s _
    · exact answers_i2cFastRead s a7 reg n
  | _ => cases hfam

end Sys2Proof.Machine
end

section
/-! PROOFS. What the SPI and DC requests send (R235 to R243, R264 to R275): pin commands and payload transfers are
queued in a bracket that is flushed once. -/

namespace Sys2Proof.Machine

/-! ## Pin commands -/

theorem queues_csSet (l : Bit) : Queues (csSet l) fun s => csCmd s l := .update (fun _ => rfl) fun _ => rfl

theorem queues_dcSet (l : Bit) (rst : Rst) : Queues (dcSet l rst) fun s => dcCmd s l rst :=
  .update (fun _ => rfl) fun _ => rfl

theorem queues_csSetIfManaged (l : Option Bit) : Queues (csSetIfManaged l) fun s => managedBytes s l := by
  cases l with
  | none => exact .ret ()
  | some l => exact queues_csSet l

/-- The enable sequence, from the table of R234 (R235). -/
theorem queues_spiEnable : Queues spiEnable openBytes := by
  intro s
  rw [openBytes_eq]
  exact queues_csSetIfManaged _ s

/-- The disable sequence, from the table of R234 (R236). -/
theorem queues_spiDisable : Queues spiDisable closeBytes := by
  intro s
  rw [closeBytes_eq]
  exact queues_csSetIfManaged _ s

/-! ## Payload transfers -/

theorem encTransfer_write (s : State) (payload : Bytes) (off n : Nat) :
    encTransfer s.params (spiOps s.spi.mode s.spi.order).1 payload off n =
      formatY s.params (writeCmd s) payload off n := by
  rw [writeCmd]
  cases s.spi.mode <;> cases s.spi.order <;> rfl

theorem encTransfer_duplex (s : State) (payload : Bytes) (off n : Nat) :
    encTransfer s.params (spiOps s.spi.mode s.spi.order).2 payload off n =
      formatY s.params (duplexCmd s) payload off n := by
  rw [duplexCmd]
  cases s.spi.mode <;> cases s.spi.order <;> rfl

/-- A sub-range that one command can carry (R121, R167). -/
structure LegalRange (payload : Bytes) (off n : Nat) : Prop where
  pos : 1 ≤ n
  le : n ≤ 65536
  inside : off + n ≤ payload.length

section
variable {payload : Bytes} {off n : Nat} (h : LegalRange payload off n)
include h

theorem queues_enqueueWrite : Queues (enqueueWrite payload off n)
    fun s => transferBytes s.params (writeCmd s) (memRead payload off n) := by
  intro s
  rw [enqueueWrite, withState_apply, encTransfer_write, formatY_of_legal _ _ h.pos h.le h.inside]
  exact queues_enqueueOf (fun _ => _) s

theorem queues_enqueueDuplex : Queues (enqueueDuplex payload off n)
    fun s => transferBytes s.params (duplexCmd s) (memRead payload off n) := by
  intro s
  rw [enqueueDuplex, withState_apply, encTransfer_duplex, formatY_of_legal _ _ h.pos h.le h.inside]
  exact queues_enqueueOf (fun _ => _) s

theorem responseTotal_write_memRead {s : State} (hp : s.params.opc.toList.Nodup) :
    responseTotal s.params (transferBytes s.params (writeCmd s) (memRead payload off n)) = some 0 :=
  responseTotal_write hp (by rw [memRead_length h.inside]; exact h.pos) (by rw [memRead_length h.inside]; exact h.le)

theorem responseTotal_duplex_memRead {s : State} (hp : s.params.opc.toList.Nodup) :
    responseTotal s.params (transferBytes s.params (duplexCmd s) (memRead payload off n)) = some n := by
  have hlen := memRead_length h.inside
  rw [responseTotal_duplex hp (by rw [hlen]; exact h.pos) (by rw [hlen]; exact h.le), hlen]

end

theorem legalRange_whole {payload : Bytes} (h : legalByteCount payload.length = true) :
    LegalRange payload 0 payload.length := by
  obtain ⟨h1, h2⟩ : 1 ≤ payload.length ∧ payload.length ≤ 65536 := by simpa [legalByteCount] using h
  exact ⟨h1, h2, by omega⟩

theorem memRead_whole (payload : Bytes) : memRead payload 0 payload.length = payload := by simp [memRead]

/-! ## The bracket -/

/-- What is queued inside a bracket is delivered with it, its responses left to be read (R237). -/
theorem Queues.bracketed {inside : Req Unit} {f : State → Bytes} {n : Nat} (h : Queues inside f)
    (hf : ∀ s, s.params.opc.toList.Nodup → responseTotal s.params (f s) = some n)
    (hsteady : Steady f := by exact fun _ => rfl) :
    Sends n (bracketed inside) fun s => openBytes s ++ f s ++ closeBytes s := by
  have hqueued := (queues_spiEnable.andThen (fun _ => h) hsteady).andThen fun _ => queues_spiDisable
  have hsends := hqueued.thenFlush (n := n) fun s hp => by
    have hopen := responseTotal_append_some (responseTotal_openBytes hp) (hf s hp)
    simpa using responseTotal_append_some hopen (responseTotal_closeBytes hp)
  simp only [andThen_assoc] at hsends
  exact hsends

/-! ## Chunks -/

/-- The chunks are inside the payload and of legal length (R266). -/
theorem chunksFrom_legal {payload : Bytes} {fuel off left : Nat} (hleft : 1 ≤ left) (hfuel : left ≤ fuel + 65535)
    (hin : off + left ≤ payload.length) : ∀ c ∈ chunksFrom fuel off left, LegalRange payload c.1 c.2 := by
  induction fuel generalizing off left with
  | zero => simpa [chunksFrom] using LegalRange.mk hleft (by omega) hin
  | succ fuel ih =>
    rw [chunksFrom]
    split
    · exact List.forall_mem_cons.mpr ⟨⟨by omega, by omega, by omega⟩, ih (by omega) (by omega) (by omega)⟩
    · simpa using LegalRange.mk hleft (by omega) hin

theorem chunksFrom_sum (fuel off left : Nat) : ((chunksFrom fuel off left).map Prod.snd).sum = left := by
  induction fuel generalizing off left with
  | zero => simp [chunksFrom]
  | succ fuel ih =>
    rw [chunksFrom]
    split
    · rw [List.map_cons, List.sum_cons, ih]; omega
    · simp

theorem dcChunks_legal {payload : Bytes} (h : 1 ≤ payload.length) :
    ∀ c ∈ dcChunks payload.length, LegalRange payload c.1 c.2 := by
  rw [dcChunks]
  split
  · simpa using LegalRange.mk h ‹_› (by omega)
  · exact chunksFrom_legal h (by omega) (by omega)

theorem dcChunks_sum (len : Nat) : ((dcChunks len).map Prod.snd).sum = len := by
  rw [dcChunks]
  split
  · simp
  · exact chunksFrom_sum _ _ _

/-! ## The command stream -/

/-- An entry's command byte and arguments are inside the buffer (R270, R271). -/
theorem parseFrom_inside {fuel : Nat} {buf : Bytes} {i : Nat} {entries : List (Nat × Nat)}
    (h : parseFrom fuel buf i = .ok entries) : ∀ e ∈ entries, e.1 + 2 + e.2 ≤ buf.length ∧ e.2 ≤ 127 := by
  induction fuel generalizing i entries with
  | zero => cases h; simp
  | succ fuel ih =>
    have hcount : argCount (buf.getD (i + 1) 0) ≤ 127 := by
      rw [argCount, BitVec.toNat_and]; exact Nat.and_le_right
    rw [parseFrom] at h
    split at h
    · split at h
      · cases h
      · split at h
        · cases h
        · split at h
          · cases h
          · cases h
            exact List.forall_mem_cons.mpr ⟨⟨by omega, hcount⟩, ih ‹_›⟩
    · cases h; simp

/-- One command can carry the command byte of an entry, and one its arguments, if it has any (R272). -/
structure LegalEntry (buf : Bytes) (e : Nat × Nat) : Prop where
  command : LegalRange buf e.1 1
  args : e.2 ≠ 0 → LegalRange buf (e.1 + 2) e.2

theorem parseStream_legal {buf : Bytes} {entries : List (Nat × Nat)} (h : parseStream buf = .ok entries) :
    ∀ e ∈ entries, LegalEntry buf e := by
  intro e he
  obtain ⟨hin, hcount⟩ := parseFrom_inside h e he
  exact ⟨⟨by omega, by omega, by omega⟩, fun _ => ⟨by omega, by omega, by omega⟩⟩

theorem queues_streamEntry {buf : Bytes} {e : Nat × Nat} (h : LegalEntry buf e) :
    Queues (streamEntry buf e) fun s => entryBytes s buf e := by
  have hcommand := (queues_dcSet .zero .inactive).andThen fun _ => queues_enqueueWrite h.command
  rw [streamEntry, ← andThen_assoc]
  by_cases hzero : e.2 = 0
  · simpa [entryBytes, memRead, hzero] using hcommand.thenQuiet fun _ => Queues.ret ()
  · have hdata := (queues_dcSet .one .inactive).andThen fun _ => queues_enqueueWrite (h.args hzero)
    simpa [entryBytes, memRead, hzero, Nat.pos_iff_ne_zero] using hcommand.andThen fun _ => hdata

theorem responseTotal_entryBytes {s : State} (hp : s.params.opc.toList.Nodup) {buf : Bytes} {e : Nat × Nat}
    (h : LegalEntry buf e) : responseTotal s.params (entryBytes s buf e) = some 0 := by
  have hcommand := responseTotal_append_some (responseTotal_dcCmd hp .zero .inactive)
    (responseTotal_write_memRead h.command hp)
  have hdata : responseTotal s.params (if e.2 = 0 then [] else dcCmd s .one .inactive ++
      transferBytes s.params (writeCmd s) (memRead buf (e.1 + 2) e.2)) = some 0 := by
    split
    · rfl
    · exact responseTotal_append_some (responseTotal_dcCmd hp .one .inactive)
        (responseTotal_write_memRead (h.args ‹_›) hp)
  exact responseTotal_append_some hcommand hdata

/-! ## Level commands -/

theorem initialLevel_eq (policy : CsPolicy) : initialLevel policy = initLevel policy := by cases policy <;> rfl

/-- The bytes of toggles from a level on, each with its reset pin (R273). -/
def toggleBytes (s : State) (level : Bit) (rsts : List Rst) : Bytes :=
  match rsts with
  | [] => []
  | rst :: rest => dcCmd s (levelNot level) rst ++ toggleBytes s (levelNot level) rest

theorem steady_toggleBytes (level : Bit) (rsts : List Rst) : Steady fun s => toggleBytes s level rsts := by
  intro s
  induction rsts generalizing level with
  | nil => rfl
  | cons rst rest ih => exact congrArg (dcCmd s (levelNot level) rst ++ ·) (ih (levelNot level))

theorem queues_toggles (rsts : List Rst) : Queues (forEach rsts dcToggle) fun s => toggleBytes s s.dc.dcLevel rsts := by
  induction rsts with
  | nil => exact .ret ()
  | cons rst rest ih =>
    intro s
    obtain ⟨v, t, hrun, ht⟩ := queues_dcSet (levelNot s.dc.dcLevel) rst s
    have hlevel : t.dc.dcLevel = levelNot s.dc.dcLevel := by cases hrun; rfl
    obtain ⟨w, u, hrun', hu⟩ := ih t
    have hsame : toggleBytes t (levelNot s.dc.dcLevel) rest = toggleBytes s (levelNot s.dc.dcLevel) rest :=
      (steady_toggleBytes _ rest).congr ht.settings
    simp only [hlevel, hsame] at hu
    exact ⟨w, u, (andThen_of_done (m := dcToggle rst) hrun _).trans hrun', ht.trans hu⟩

/-- The six toggles of DC.ResetDance (R274). -/
theorem danceBytes_eq (s : State) : danceBytes s =
    toggleBytes s s.dc.dcLevel [.inactive, .inactive, .inactive, .inactive, .inactive, .active] := by
  cases hl : s.dc.dcLevel <;> simp [danceBytes, toggleBytes, levelNot, hl]

theorem responseTotal_toggleBytes {s : State} (hp : s.params.opc.toList.Nodup) (level : Bit) (rsts : List Rst) :
    responseTotal s.params (toggleBytes s level rsts) = some 0 := by
  induction rsts generalizing level with
  | nil => rfl
  | cons rst rest ih => exact responseTotal_append_some (responseTotal_dcCmd hp _ rst) (ih _)

theorem andThen_ret_unit (m : Req Unit) : andThen m (fun _ => ret ()) = m := by
  funext s
  rw [andThen]
  cases m s <;> rfl

theorem queues_dance : Queues
    (andThen (forEach (List.replicate 5 ()) fun _ => dcToggle .inactive) fun _ => dcToggle .active) danceBytes := by
  have htoggles := queues_toggles [.inactive, .inactive, .inactive, .inactive, .inactive, .active]
  simp only [← danceBytes_eq, forEach_cons, forEach_nil, andThen_ret_unit] at htoggles
  simpa only [List.replicate, forEach_cons, forEach_nil, andThen_assoc, andThen_ret] using htoggles

theorem responseTotal_danceBytes {s : State} (hp : s.params.opc.toList.Nodup) :
    responseTotal s.params (danceBytes s) = some 0 := by
  rw [danceBytes_eq]
  exact responseTotal_toggleBytes hp _ _

/-! ## Requests -/

/-- One half of DC.ResetTimed: the reset pin driven under the present data/command level, and a wait (R275). -/
def resetPulse (rst : Rst) (ms : Millis) : Req Unit :=
  andThen (update fun s => s.enqueue (dcCmd s s.dc.dcLevel rst)) fun _ => andThen executeBuffer fun _ => delay ms

theorem ends_resetPulse (rst : Rst) (ms : Millis) (s : State) : Ends (resetPulse rst ms) s
    (fun _ t => Ran s (dcCmd s s.dc.dcLevel rst) 0 t ∧ t.dc = s.dc) NoError := by
  obtain ⟨v, u, hrun, hu⟩ := queues_enqueueOf (fun s => dcCmd s s.dc.dcLevel rst) s
  have hdc : u.dc = s.dc := by cases hrun; rfl
  rw [resetPulse, Ends, andThen_of_done hrun]
  rcases executeBuffer_cases u with ⟨-, hflush⟩ | ⟨-, hflush⟩
  · have hsent : Carried s (dcCmd s s.dc.dcLevel rst) 0 u.flushed :=
      .of_flushed hu.xp hu.params fun hp => responseTotal_dcCmd hp _ rst
    rw [andThen_of_done hflush]
    exact ⟨⟨⟨hsent.params, hsent.history, hsent.balanced⟩, hu.settings⟩, hdc⟩
  · rw [andThen_of_raised hflush]
    exact fun hne => absurd rfl hne

/-- DC.ResetTimed: the level it uses for the release is the one before it (R275). -/
theorem sends_resetTimed (ms1 ms2 : Millis) : Sends 0
    (andThen (resetPulse .active ms1) fun _ => andThen (resetPulse .inactive ms2) fun _ => ret Result.unit)
    fun s => dcCmd s s.dc.dcLevel .active ++ dcCmd s s.dc.dcLevel .inactive := by
  intro s
  refine (ends_resetPulse .active ms1 s).andThen fun _ t ⟨ht, hdc⟩ => ?_
  refine (ends_resetPulse .inactive ms2 t).andThen fun _ u ⟨hu, _⟩ => .of_done rfl ?_
  have hsame : dcCmd t s.dc.dcLevel .inactive = dcCmd s s.dc.dcLevel .inactive :=
    Steady.congr (f := fun s' => dcCmd s' s.dc.dcLevel .inactive) (fun _ => rfl) ht.settings
  rw [hdc, hsame] at hu
  exact ht.trans hu

theorem Answers.of_spiRequest {m : Req Result} {s t : State} {f : Response → Bytes} (h : Answers m s f)
    (hx : spiRequest m s = .next t) (hresp : t.resp ≠ .error .transportFailure) :
    Carried s (enqueuedOn f t.resp) 0 t := by
  obtain ⟨-, ht⟩ := spiRequest_next hx
  exact h.carried ht hresp

theorem Answers.of_dcRequest {m : Req Result} {s t : State} {f : Response → Bytes} (h : Answers m s f)
    (hx : dcRequest m s = .next t) (hresp : t.resp ≠ .error .transportFailure) :
    Carried s (enqueuedOn f t.resp) 0 t := by
  obtain ⟨-, -, ht⟩ := dcRequest_next hx
  exact h.carried ht hresp

/-- A bracket whose responses are read at once (R243, R268). -/
theorem Sends.thenReadRet {α β : Type} {m : Req α} {f : State → Bytes} {n : Nat} {v : Bytes → β} (h : Sends n m f) :
    Sends 0 (Machine.andThen m fun _ => Machine.andThen (read n) fun r => Machine.ret (v r)) f := by
  simpa only [andThen_assoc] using h.thenRead.thenRet (v := v)

theorem sends_spiWrite {payload : Bytes} (h : legalByteCount payload.length = true) :
    Sends 0 (bracketed (enqueueWrite payload 0 payload.length)) fun s =>
      openBytes s ++ transferBytes s.params (writeCmd s) payload ++ closeBytes s := by
  have hwhole := legalRange_whole h
  have hsends := (queues_enqueueWrite hwhole).bracketed fun s hp => responseTotal_write_memRead hwhole hp
  simpa only [memRead_whole] using hsends

theorem sends_spiTransfer {payload : Bytes} (h : legalByteCount payload.length = true) :
    Sends payload.length (bracketed (enqueueDuplex payload 0 payload.length)) fun s =>
      openBytes s ++ transferBytes s.params (duplexCmd s) payload ++ closeBytes s := by
  have hwhole := legalRange_whole h
  have hsends := (queues_enqueueDuplex hwhole).bracketed fun s hp => responseTotal_duplex_memRead hwhole hp
  simpa only [memRead_whole] using hsends

section
variable (s : State) (mode : Mode) (order : Order) (csPin : Byte) (policy : CsPolicy) (lowVal lowDir : Byte)

theorem carried_spiInitSent :
    Carried s (csCmd (spiConfigured s mode order csPin policy lowVal lowDir) (initLevel policy)) 0
      (s.spiInitSent mode order csPin policy lowVal lowDir).flushed := by
  refine .of_flushed ?_ rfl fun hp => ?_
  · rw [← initialLevel_eq]; rfl
  · exact responseTotal_csCmd (s := spiConfigured s mode order csPin policy lowVal lowDir) hp _

variable (dcPin rstPin highVal highDir : Byte)

theorem dcInitSent_params :
    (s.dcInitSent mode order csPin policy lowVal lowDir dcPin rstPin highVal highDir).params = s.params := by
  simp [State.dcInitSent]

theorem dcInitSent_xp :
    (s.dcInitSent mode order csPin policy lowVal lowDir dcPin rstPin highVal highDir).xp =
      { s.xp with cb := s.xp.cb ++ (csCmd (spiConfigured s mode order csPin policy lowVal lowDir) (initLevel policy) ++
          dcCmd (dcConfigured s dcPin rstPin highVal highDir) .one .inactive) } := by
  rw [← initialLevel_eq, ← List.append_assoc]
  rfl

theorem carried_dcInitSent :
    Carried s (csCmd (spiConfigured s mode order csPin policy lowVal lowDir) (initLevel policy) ++
        dcCmd (dcConfigured s dcPin rstPin highVal highDir) .one .inactive) 0
      (s.dcInitSent mode order csPin policy lowVal lowDir dcPin rstPin highVal highDir).flushed := by
  refine .of_flushed (dcInitSent_xp ..) (dcInitSent_params ..) fun hp =>
    responseTotal_append_some (m := 0) (n := 0) ?_ ?_
  · exact responseTotal_csCmd (s := spiConfigured s mode order csPin policy lowVal lowDir) hp _
  · exact responseTotal_dcCmd (s := dcConfigured s dcPin rstPin highVal highDir) hp _ _

end

theorem exec_spi_carried {i : Instr} {s t : State} (hfam : familyOf i.op = .spi) (hx : exec i s = .next t)
    (hresp : t.resp ≠ .error .transportFailure) : Carried s (enqueuedOn (enqueuedBy i s) t.resp) 0 t := by
  unfold exec at hx
  cases i with
  | spiInit mode order csPin policy lowVal lowDir =>
    rcases exec_spiInit_cases hx with rfl | ⟨-, rfl | rfl⟩
    · exact .of_rejected s _
    · have hsent := carried_spiInitSent s mode order csPin policy lowVal lowDir
      exact ⟨hsent.params, hsent.history, hsent.balanced⟩
    · exact absurd rfl hresp
  | spiSetCsLevel level =>
    have hset := (queues_csSet level).sends fun _ hp => responseTotal_csCmd hp level
    exact (hset.thenRet.answers s).of_spiRequest hx hresp
  | spiEnable =>
    exact ((queues_spiEnable.sends fun _ => responseTotal_openBytes).thenRet.answers s).of_spiRequest hx hresp
  | spiDisable =>
    exact ((queues_spiDisable.sends fun _ => responseTotal_closeBytes).thenRet.answers s).of_spiRequest hx hresp
  | spiWrite payload =>
    refine Answers.of_spiRequest ?_ hx hresp
    split
    · exact (sends_spiWrite ‹_›).thenRet.answers s
    · exact .of_invalidArgument s _
  | spiTransfer payload =>
    refine Answers.of_spiRequest ?_ hx hresp
    split
    · exact (sends_spiTransfer ‹_›).thenReadRet.answers s
    · exact .of_invalidArgument s _
  | _ => cases hfam

theorem sends_dcWrite {payload : Bytes} (h : 1 ≤ payload.length) (isCommand : Bool) :
    Sends 0 (bracketed
      (andThen (dcSet (dcLevelOf isCommand) .inactive) fun _ =>
       forEach (dcChunks payload.length) fun c => enqueueWrite payload c.1 c.2))
      fun s => dcTransferBytes s (writeCmd s) payload isCommand := by
  have hchunks := Queues.forEach fun c hc => queues_enqueueWrite (dcChunks_legal h c hc)
  have hsends := ((queues_dcSet (dcLevelOf isCommand) .inactive).andThen fun _ => hchunks).bracketed (n := 0)
    fun s hp => responseTotal_append_some (responseTotal_dcCmd hp _ _)
      (responseTotal_flatMap_const fun c hc => responseTotal_write_memRead (dcChunks_legal h c hc) hp)
  exact hsends.of_eq fun s => by simp only [dcTransferBytes, dcLevelOf, memRead, List.append_assoc]

theorem sends_dcTransfer {payload : Bytes} (h : 1 ≤ payload.length) (isCommand : Bool) :
    Sends payload.length (bracketed
      (andThen (dcSet (dcLevelOf isCommand) .inactive) fun _ =>
       forEach (dcChunks payload.length) fun c => enqueueDuplex payload c.1 c.2))
      fun s => dcTransferBytes s (duplexCmd s) payload isCommand := by
  have hchunks := Queues.forEach fun c hc => queues_enqueueDuplex (dcChunks_legal h c hc)
  have howed {s : State} (hp : s.params.opc.toList.Nodup) :=
    responseTotal_flatMap fun c hc => responseTotal_duplex_memRead (s := s) (dcChunks_legal h c hc) hp
  have hsends := ((queues_dcSet (dcLevelOf isCommand) .inactive).andThen fun _ => hchunks).bracketed
    (n := payload.length) fun s hp => by
      rw [responseTotal_append_some (responseTotal_dcCmd hp _ _) (howed hp), dcChunks_sum, Nat.zero_add]
  exact hsends.of_eq fun s => by simp only [dcTransferBytes, dcLevelOf, memRead, List.append_assoc]

theorem sends_dcCommandStream {buf : Bytes} {entries : List (Nat × Nat)} (h : parseStream buf = .ok entries) :
    Sends 0 (bracketed (forEach entries (streamEntry buf))) fun s => streamBytes s buf := by
  have hlegal := parseStream_legal h
  have hentries := Queues.forEach fun e he => queues_streamEntry (hlegal e he)
  have hsends := hentries.bracketed (n := 0) fun s hp => by
    rw [responseTotal_flatMap_const fun e he => responseTotal_entryBytes hp (hlegal e he), Nat.mul_zero]
  exact hsends.of_eq fun s => by simp only [streamBytes, h]

theorem exec_dc_carried {i : Instr} {s t : State} (hfam : familyOf i.op = .dc) (hx : exec i s = .next t)
    (hresp : t.resp ≠ .error .transportFailure) : Carried s (enqueuedOn (enqueuedBy i s) t.resp) 0 t := by
  unfold exec at hx
  cases i with
  | dcInit mode order csPin policy lowVal lowDir dcPin rstPin highVal highDir =>
    rcases exec_dcInit_cases hx with rfl | ⟨-, -, rfl | rfl⟩
    · exact .of_rejected s _
    · have hsent := carried_dcInitSent s mode order csPin policy lowVal lowDir dcPin rstPin highVal highDir
      exact ⟨hsent.params, hsent.history, hsent.balanced⟩
    · exact absurd rfl hresp
  | dcSetDcLevel isCommand =>
    have hset := (queues_dcSet (dcLevelOf isCommand) .inactive).sends fun _ hp => responseTotal_dcCmd hp _ _
    exact (hset.thenRet.answers s).of_dcRequest hx hresp
  | dcWrite payload isCommand =>
    refine Answers.of_dcRequest ?_ hx hresp
    split
    · exact .of_invalidArgument s _
    · exact (sends_dcWrite (by omega) isCommand).thenRet.answers s
  | dcTransfer payload isCommand =>
    refine Answers.of_dcRequest ?_ hx hresp
    split
    · exact .of_invalidArgument s _
    · exact (sends_dcTransfer (by omega) isCommand).thenReadRet.answers s
  | dcCommandStream buf =>
    refine Answers.of_dcRequest ?_ hx hresp
    cases hparse : parseStream buf with
    | error e =>
      have hnothing : streamBytes s buf = [] := by rw [streamBytes, hparse]
      exact .of_raise e s hnothing
    | ok entries => exact (sends_dcCommandStream hparse).thenRet.answers s
  | dcResetDance =>
    have hdance := (queues_dance.thenFlush fun _ hp => responseTotal_danceBytes hp).thenRet (v := fun _ => Result.unit)
    simp only [andThen_assoc] at hdance
    exact (hdance.answers s).of_dcRequest hx hresp
  | dcResetTimed ms1 ms2 =>
    have htimed := sends_resetTimed ms1 ms2
    simp only [resetPulse, andThen_assoc] at htimed
    exact (htimed.answers s).of_dcRequest hx hresp
  | _ => cases hfam

end Sys2Proof.Machine
end

section
/-! PROOFS. What every request enqueues reaches `WIRE` in order (R70, R78), and the sequencers read what their commands
owe (R75). -/

namespace Sys2Proof.Machine

/-- Settles O57: the requests of the three units carry their bytes with no response byte left. -/
theorem sequencersReadAllTheirResponses : Obligations.SequencersReadAllTheirResponses := by
  intro i s t hfam hp hs hx hresp
  have hcarried : Carried s (enqueuedOn (enqueuedBy i s) t.resp) 0 t := by
    rcases hfam with hfam | hfam | hfam
    · exact exec_i2c_carried hfam hx hresp
    · exact exec_spi_carried hfam hx hresp
    · exact exec_dc_carried hfam hx hresp
  exact t.accounted_iff.mpr (hcarried.balanced hp (s.accounted_iff.mp hs))

/-! ## Function forms and ENC requests -/

theorem enqueuedBy_function {i : Instr} (hfam : familyOf i.op = .function) (s : State) (r : Response) :
    enqueuedBy i s r = [] := by
  cases i <;> cases hfam <;> rfl

/-- An `enc_` call gives the bytes `bs` or is rejected (R121, R167). -/
def GivesOrRejects (c : Except Error Bytes) (bs : Bytes) : Prop := c = .ok bs ∨ c = .error .invalidArgument

theorem formatD_eq (p : Params) (c : Cmd) (div : Half) :
    formatD p c div = [p.opcOf c, BitVec.ofNat 8 (div.toNat % 256), BitVec.ofNat 8 (div.toNat / 256)] := by
  have hlo : lo8 div = BitVec.ofNat 8 (div.toNat % 256) := by
    apply BitVec.eq_of_toNat_eq
    simp [lo8]
  have hhi : hi8 div = BitVec.ofNat 8 (div.toNat / 256) := by
    apply BitVec.eq_of_toNat_eq
    simp [hi8, Nat.shiftRight_eq_div_pow]
  rw [formatD, hlo, hhi]

theorem formatY_gives (p : Params) (c : Cmd) (payload : Bytes) (off len : Option Nat) :
    GivesOrRejects (formatY p c payload (offsetOf off) (lengthOf payload off len))
      (payloadCommand p c payload off len) := by
  by_cases hlen : legalByteCount (lengthOf payload off len) = true
  · by_cases hin : insidePayload payload (offsetOf off) (lengthOf payload off len) = true
    · obtain ⟨h1, h2⟩ : 1 ≤ lengthOf payload off len ∧ lengthOf payload off len ≤ 65536 := by
        simpa [legalByteCount] using hlen
      exact .inl (formatY_of_legal p c h1 h2 (by simpa [insidePayload] using hin))
    · exact .inr (by rw [formatY, if_pos hlen, if_neg hin])
  · exact .inr (by rw [formatY, if_neg hlen])

theorem formatYI_gives (p : Params) (c : Cmd) (len : Nat) :
    GivesOrRejects (formatYI p c len) (byteInCommand p c len) := by
  rw [formatYI, byteHeader, wireLen_eq]
  split
  · exact .inl rfl
  · exact .inr rfl

theorem formatB_gives (p : Params) (c : Cmd) (data : Byte) (count : Nat) :
    GivesOrRejects (formatB p c data count) (bitOutCommand p c data count) := by
  rw [formatB]
  split
  · exact .inl rfl
  · exact .inr rfl

theorem formatBI_gives (p : Params) (c : Cmd) (count : Nat) :
    GivesOrRejects (formatBI p c count) (bitInCommand p c count) := by
  rw [formatBI]
  split
  · exact .inl rfl
  · exact .inr rfl

/-- Every ENC request appends the command its row lays out, or rejects its operands (R124). -/
theorem exec_enc_command {i : Instr} (hfam : familyOf i.op = .enc) (s : State) :
    ∃ c, exec i s = appendCommand c s ∧ GivesOrRejects c (enqueuedBy i s (.ok .unit)) := by
  cases i with
  | encSetClockDivisor div => exact ⟨_, rfl, .inl (congrArg Except.ok (formatD_eq s.params .setClockDivisor div))⟩
  | encClkDiv5Disable | encClkDiv5Enable | encThreePhaseEnable | encThreePhaseDisable | encAdaptiveEnable
  | encAdaptiveDisable | encLoopbackConnect | encLoopbackDisconnect | encSendImmediate | encWaitOnHigh | encWaitOnLow
  | encReadDataBitsLow | encReadDataBitsHigh | encSetDataBitsLow | encSetDataBitsHigh => exact ⟨_, rfl, .inl rfl⟩
  | encBytesOutPlusMsb payload off len | encBytesOutMinusMsb payload off len | encBytesOutPlusLsb payload off len
  | encBytesOutMinusLsb payload off len | encBytesInPlusOutMinusMsb payload off len
  | encBytesInMinusOutPlusMsb payload off len | encBytesInPlusOutMinusLsb payload off len
  | encBytesInMinusOutPlusLsb payload off len => exact ⟨_, rfl, formatY_gives s.params _ payload off len⟩
  | encBytesInPlusMsb n | encBytesInMinusMsb n | encBytesInPlusLsb n | encBytesInMinusLsb n =>
    exact ⟨_, rfl, formatYI_gives s.params _ n⟩
  | encBitsInPlusMsb k | encBitsInMinusMsb k | encBitsInPlusLsb k | encBitsInMinusLsb k =>
    exact ⟨_, rfl, formatBI_gives s.params _ k⟩
  | encBitsOutPlusMsb data k | encBitsOutMinusMsb data k | encBitsOutPlusLsb data k | encBitsOutMinusLsb data k
  | encBitsInPlusOutMinusMsb data k | encBitsInMinusOutPlusMsb data k | encBitsInPlusOutMinusLsb data k
  | encBitsInMinusOutPlusLsb data k => exact ⟨_, rfl, formatB_gives s.params _ data k⟩
  | _ => cases hfam

section
variable {i : Instr} {s t : State}

theorem exec_enc_history (hfam : familyOf i.op = .enc) (hx : exec i s = .next t) :
    t.history = s.history ++ enqueuedOn (enqueuedBy i s) t.resp := by
  obtain ⟨c, hexec, hc⟩ := exec_enc_command hfam s
  rw [hexec] at hx
  rcases hc with rfl | rfl
  · cases hx
    exact (List.append_assoc ..).symm
  · cases hx
    exact (List.append_nil _).symm

/-! ## XP requests -/

theorem exec_xp_history (hfam : familyOf i.op = .xp) (hx : exec i s = .next t)
    (hresp : t.resp ≠ .error .transportFailure) (hclear : i ≠ .xpClearOutput) :
    t.history = s.history ++ enqueuedOn (enqueuedBy i s) t.resp := by
  cases i with
  | xpEnqueue bytes => cases hx; exact (List.append_assoc ..).symm
  | xpExecute =>
    rcases executeBuffer_cases s with ⟨-, hflush⟩ | ⟨-, hflush⟩
    · rw [exec_xpExecute, andThen_of_done hflush] at hx
      cases hx; rfl
    · rw [exec_xpExecute, andThen_of_raised hflush] at hx
      cases hx; exact absurd rfl hresp
  | xpRead n =>
    rcases read_cases n s with ⟨-, hread⟩ | ⟨-, -, hread⟩ | ⟨-, -, hread⟩
    · rw [exec_xpRead, andThen_of_done hread] at hx
      cases hx; exact (List.append_nil _).symm
    · rw [exec_xpRead, andThen_of_done hread] at hx
      cases hx; exact (List.append_nil _).symm
    · rw [exec_xpRead, andThen_of_raised hread] at hx
      cases hx; exact absurd rfl hresp
  | xpClearInput | xpSetClockDivisor | xpSetLoopback => cases hx; exact (List.append_nil _).symm
  | xpClearOutput => exact absurd rfl hclear
  | _ => cases hfam

/-! ## Every request -/

theorem exec_history (hx : exec i s = .next t) (hresp : t.resp ≠ .error .transportFailure)
    (hclear : i ≠ .xpClearOutput) : t.history = s.history ++ enqueuedOn (enqueuedBy i s) t.resp := by
  cases hfam : familyOf i.op with
  | function =>
    obtain ⟨r, rfl⟩ := exec_function_respond hfam hx
    rw [enqueuedOn, enqueuedBy_function hfam, ite_self, List.append_nil]
    rfl
  | enc => exact exec_enc_history hfam hx
  | i2c => exact (exec_i2c_carried hfam hx hresp).history
  | spi => exact (exec_spi_carried hfam hx hresp).history
  | dc => exact (exec_dc_carried hfam hx hresp).history
  | xp => exact exec_xp_history hfam hx hresp hclear

/-! ## The delivered bytes -/

theorem transportKept_wire (w : Bytes) : TransportKept fun u => w <+: u.xp.wire where
  respond _ _ h := h
  enqueue _ _ h := h
  flushed _ h := h.trans (List.prefix_append _ _)
  flushLost _ h := h
  taken _ _ h := h
  readLost _ h := h

theorem i2cKept_wire (w : Bytes) : I2cKept fun u => w <+: u.xp.wire where
  toTransportKept := transportKept_wire w
  setFsm _ _ _ h := h

theorem dcKept_wire (w : Bytes) : DcKept fun u => w <+: u.xp.wire where
  toTransportKept := transportKept_wire w
  setCsLevel _ _ h := h
  setDcLevel _ _ h := h
  delay _ _ h := h

theorem exec_xp_wire (hfam : familyOf i.op = .xp) (hx : exec i s = .next t) : s.xp.wire <+: t.xp.wire := by
  have h := transportKept_wire s.xp.wire
  unfold exec at hx
  cases i with
  | xpExecute => exact h.of_complete (h.keeps_executeBuffer.andThen fun _ => Keeps.ret _) hx (List.prefix_refl _)
  | xpRead n => exact h.of_complete ((h.keeps_read n).andThen fun _ => Keeps.ret _) hx (List.prefix_refl _)
  | xpEnqueue | xpClearInput | xpClearOutput | xpSetClockDivisor | xpSetLoopback => cases hx; exact List.prefix_refl _
  | _ => cases hfam

/-- `WIRE` only grows (R70). -/
theorem exec_wire (hx : exec i s = .next t) : s.xp.wire <+: t.xp.wire := by
  cases hfam : familyOf i.op with
  | function => obtain ⟨r, rfl⟩ := exec_function_respond hfam hx; exact List.prefix_refl _
  | enc => obtain ⟨bs, r, rfl⟩ := exec_enc_enqueue hfam hx; exact List.prefix_refl _
  | i2c =>
    by_cases hop : i.op ∈ [Op.i2cInit, Op.i2cSetTiming]
    · cases i with
      | i2cInit => rcases exec_i2cInit_cases hx with rfl | ⟨-, rfl | rfl⟩ <;> simp [State.i2cInitSent]
      | i2cSetTiming => rcases exec_i2cSetTiming_cases hx with rfl | ⟨-, rfl⟩ <;> exact List.prefix_refl _
      | _ => simp [Instr.op] at hop
    · exact (i2cKept_wire s.xp.wire).exec_keeps hfam hop hx fun _ => List.prefix_refl _
  | spi =>
    by_cases hop : i.op = .spiInit
    · cases i with
      | spiInit => rcases exec_spiInit_cases hx with rfl | ⟨-, rfl | rfl⟩ <;> simp [State.spiInitSent]
      | _ => simp [Instr.op] at hop
    · exact (dcKept_wire s.xp.wire).toSpiKept.exec_keeps hfam hop hx (List.prefix_refl _)
  | dc =>
    by_cases hop : i.op = .dcInit
    · cases i with
      | dcInit => rcases exec_dcInit_cases hx with rfl | ⟨-, -, rfl | rfl⟩ <;> simp [State.dcInitSent]
      | _ => simp [Instr.op] at hop
    · exact (dcKept_wire s.xp.wire).exec_keeps hfam hop hx (List.prefix_refl _)
  | xp => exact exec_xp_wire hfam hx

end

/-- Settles O58: `WIRE` grows, and each family's requests carry exactly the bytes of their rules. -/
theorem bytesReachTheWireInOrder : Obligations.BytesReachTheWireInOrder := by
  intro i s t hx
  obtain ⟨sent, hsent⟩ := exec_wire hx
  exact ⟨⟨sent, hsent.symm⟩, fun hresp hclear => exec_history hx hresp hclear⟩

end Sys2Proof.Machine
end

section
/-! PROOFS. The two decoders (R90 to R98, R103, R104): the first byte chooses the operation, and the operand readers of
that operation read back what `putOperands` wrote. -/

namespace Sys2Proof.Machine

/-! ## The first byte -/

theorem decodeRequest_of_reserved {b : Byte} (h : Op.ofCode b = none) (r : Bytes) :
    decodeRequest (b :: r) = .error (.reservedCode b) := by simp [decodeRequest, h]

theorem decodeRequest_of_code {b : Byte} {o : Op} (h : Op.ofCode b = some o) (r : Bytes) :
    decodeRequest (b :: r) = readOperands o r := by simp [decodeRequest, h]

theorem decodeCommand_of_unknown {b : Byte} (h : Cmd.ofOpcode b = none) (r : Bytes) :
    decodeCommand (b :: r) = .error (.unknownOpcode b) := by simp [decodeCommand, h]

theorem decodeCommand_of_opcode {b : Byte} {c : Cmd} (h : Cmd.ofOpcode b = some c) (r : Bytes) :
    decodeCommand (b :: r) = readCommand c r := by simp [decodeCommand, h]

/-- The operations that are no requests are the function forms (R104, R120). -/
theorem familyOf_eq_function_iff (o : Op) : familyOf o = .function ↔ ∃ c, o = .command c := by
  cases o <;> simp [familyOf]

/-- No engine opcode is a select code (R103). -/
theorem ofCode_defaultOpc (c : Cmd) : Op.ofCode c.defaultOpc = none := Laws.ofCode_code (.command c)

theorem isCommand_of_not_function {o : Op} (h : familyOf o ≠ .function) : o.isCommand = false := by
  cases o with
  | command c => exact absurd rfl h
  | _ => rfl

theorem ofCode_request {o : Op} (h : familyOf o ≠ .function) : Op.ofCode o.code = some o := by
  rw [Laws.ofCode_code, isCommand_of_not_function h]; rfl

/-- No select code is an engine opcode (R103). -/
theorem ofOpcode_request {o : Op} (h : familyOf o ≠ .function) : Cmd.ofOpcode o.code = none := by
  have hread := Laws.ofOpcode_code o
  rw [isCommand_of_not_function h] at hread
  exact Option.map_eq_none_iff.mp hread

/-! ## The operands -/

theorem wholePayload_iff (payload : Bytes) (off len : Option Nat) :
    wholePayload payload off len = true ↔ (1 ≤ payload.length ∧ payload.length ≤ 65536) ∧ off = none ∧ len = none := by
  simp [wholePayload, and_assoc]

/-- A whole payload is read back from its wire form (R94). -/
theorem readWirePayload_whole {mk : Bytes → Option Nat → Option Nat → Instr} {payload : Bytes} {off len : Option Nat}
    (h : wholePayload payload off len = true) (rest : Bytes) :
    readWirePayload (fun bs => readDone (mk bs none none)) (wireLen payload.length ++ payload ++ rest) =
      .ok (mk payload off len, rest) := by
  obtain ⟨hlen, rfl, rfl⟩ := (wholePayload_iff payload off len).mp h
  rw [List.append_assoc, readWirePayload_wire _ hlen, readDone_apply]

/-- A byte count is read back from its wire form (R94, R98). -/
theorem readWireLen_count {len : Nat} (h : wireByteCount len = true) (k : Nat → Reader) (rest : Bytes) :
    readWireLen k (wireLen len ++ rest) = k len rest :=
  readWireLen_wireLen k (of_decide_eq_true h) rest

/-- A bit count is read back from its wire form (R95, R98). -/
theorem readWireBits_count {count : Nat} (h : wireBitCount count = true) (k : Nat → Reader) (rest : Bytes) :
    readWireBits k (wireBits count ++ rest) = k count rest :=
  readWireBits_wireBits k (of_decide_eq_true h) rest

/-- The readers of an operation read back the operands of every well-formed instruction of it. Only the wire forms with
a length need it to be legal; every other operand form is read back as it is (the lemmas of Laws/Encode). -/
theorem readOperands_putOperands {i : Instr} (hwf : i.wellFormed = true) (rest : Bytes) :
    readOperands i.op (putOperands i ++ rest) = .ok (i, rest) := by
  cases i with
  | bytesOutPlusMsb | bytesOutMinusMsb | bytesOutPlusLsb | bytesOutMinusLsb
  | bytesInPlusOutMinusMsb | bytesInMinusOutPlusMsb | bytesInPlusOutMinusLsb | bytesInMinusOutPlusLsb =>
    exact readWirePayload_whole hwf rest
  | bytesInPlusMsb | bytesInMinusMsb | bytesInPlusLsb | bytesInMinusLsb =>
    simp [Instr.op, readOperands, readCommand, putOperands, readWireLen_count hwf]
  | bitsOutPlusMsb | bitsOutMinusMsb | bitsOutPlusLsb | bitsOutMinusLsb
  | bitsInPlusMsb | bitsInMinusMsb | bitsInPlusLsb | bitsInMinusLsb
  | bitsInPlusOutMinusMsb | bitsInMinusOutPlusMsb | bitsInPlusOutMinusLsb | bitsInMinusOutPlusLsb =>
    simp [Instr.op, readOperands, readCommand, putOperands, readWireBits_count hwf]
  | _ => simp [Instr.op, readOperands, readCommand, readEnc, putOperands]

/-! ## Decoding an encoding -/

/-- Settles O1: the first byte selects the operation at one decoder and is refused by the other, and the operands are
read back. -/
theorem decodeReadsBackEveryEncoding : Obligations.DecodeReadsBackEveryEncoding := by
  intro i rest hwf
  have hread := readOperands_putOperands hwf rest
  refine ⟨fun hfun => ?_, fun hreq => ?_⟩
  · obtain ⟨c, hop⟩ := (familyOf_eq_function_iff i.op).mp hfun
    rw [hop] at hread
    rw [encode, hop]
    exact ⟨(decodeCommand_of_opcode (Laws.ofOpcode_defaultOpc c) _).trans hread,
      _, decodeRequest_of_reserved (ofCode_defaultOpc c) _⟩
  · exact ⟨(decodeRequest_of_code (ofCode_request hreq) _).trans hread,
      _, decodeCommand_of_unknown (ofOpcode_request hreq) _⟩

/-- Settles O2: both decoders evaluated on each word. -/
theorem writtenOutWordsDecode : Obligations.WrittenOutWordsDecode :=
  ⟨rfl, rfl, rfl, rfl, rfl, rfl, rfl, rfl, rfl, rfl, rfl, rfl, rfl, rfl⟩

/-! ## What is refused -/

/-- The values of the 72 select codes (R104). -/
def SelectCode (n : Nat) : Prop :=
  0xA0 ≤ n ∧ n ≤ 0xC7 ∨ 0xD0 ≤ n ∧ n ≤ 0xDB ∨ 0xE0 ≤ n ∧ n ≤ 0xE5 ∨ 0xE8 ≤ n ∧ n ≤ 0xEE ∨ 0xF0 ≤ n ∧ n ≤ 0xF6

theorem selectCode_code {o : Op} (h : o.isCommand = false) : SelectCode o.code.toNat := by
  cases o with
  | command c => cases h
  | enc c =>
    have hcode : (Op.enc c).code.toNat = 0xA0 + c.index.val := by
      have hlt := c.index.isLt
      simp [Op.code]
      omega
    rw [hcode, SelectCode]
    omega
  | _ => simp [Op.code, SelectCode]

/-- A byte that selects a request lies in one of the ranges of R104. -/
theorem selectCode_of_ofCode {b : Byte} {o : Op} (h : Op.ofCode b = some o) : SelectCode b.toNat := by
  obtain rfl : o.code = b := by simpa using List.find?_some h
  refine selectCode_code (Bool.eq_false_iff.mpr fun hcmd => ?_)
  rw [Laws.ofCode_code, if_pos hcmd] at h
  cases h

theorem ofCode_eq_none {b : Byte} (h : ¬ SelectCode b.toNat) : Op.ofCode b = none := by
  cases ho : Op.ofCode b with
  | none => rfl
  | some o => exact absurd (selectCode_of_ofCode ho) h

theorem ofOpcode_eq_none {b : Byte} (h : ∀ c ∈ Cmd.all, c.defaultOpc ≠ b) : Cmd.ofOpcode b = none :=
  List.find?_eq_none.mpr fun c hc => by simpa using h c hc

theorem step_of_unreadable {s : State} {e : DecodeError} (h : takeNext s = .unreadable e) :
    step s = .refused (refusalOf e) := by
  simp only [step, h]

/-- Settles O4: the empty ports, and the first byte that no request and no engine command has. -/
theorem waitsWhenIdleRefusesReservedCodes : Obligations.WaitsWhenIdleRefusesReservedCodes := by
  refine ⟨fun s hcall hport => ?_, fun s b bs hcall hport hcode => ?_, fun s b bs hcall hopc => ?_⟩
  · have hnext : takeNext s = .nothing := by simp only [takeNext, hcall, hport]
    simp only [step, hnext]
  · have hnext : takeNext s = takeRequest s := by simp only [takeNext, hcall, hport]
    have herror : decodeRequest s.port = .error (.reservedCode b) :=
      hport ▸ decodeRequest_of_reserved (ofCode_eq_none hcode) bs
    exact step_of_unreadable (hnext.trans (takeRequest_of_error herror))
  · have hnext : takeNext s = takeFunctionCall s := by simp only [takeNext, hcall]
    have herror : decodeCommand s.encPort = .error (.unknownOpcode b) :=
      hcall ▸ decodeCommand_of_unknown (ofOpcode_eq_none hopc) bs
    exact step_of_unreadable (hnext.trans (takeFunctionCall_of_error herror))

end Sys2Proof.Machine
end

section
/-! PROOFS. The forty `enc_` functions in both their forms (R120, R122, R124): when each format of R91 to R95 gives its
bytes and when it rejects its operands, and what that makes of the function form and of the ENC request. -/

namespace Sys2Proof.Machine

/-- An `enc_` call gives the bytes `bs` where `legal` holds and rejects its operands everywhere else (R121, R167). -/
structure GivesWhen (legal : Prop) (bs : Bytes) (c : Except Error Bytes) : Prop where
  gives : legal → c = .ok bs
  rejects : ¬ legal → c = .error .invalidArgument

/-! ## The two forms of a call -/

/-- The function form answers the bytes or InvalidArgument, and changes nothing else (R120, R122). -/
theorem GivesWhen.answers {legal : Prop} {bs : Bytes} {c : Except Error Bytes} (h : GivesWhen legal bs c) (s : State) :
    (legal → answerCommand c s = .next { s with resp := .ok (.bytes bs) }) ∧
    (¬ legal → answerCommand c s = .next { s with resp := .error .invalidArgument }) :=
  ⟨fun hl => h.gives hl ▸ rfl, fun hl => h.rejects hl ▸ rfl⟩

/-- The ENC request appends the bytes to `CB`, or answers InvalidArgument and leaves `CB` as it was (R124). -/
theorem GivesWhen.appends {legal : Prop} {bs : Bytes} {c : Except Error Bytes} (h : GivesWhen legal bs c) (s : State) :
    (legal → appendCommand c s = .next { s with resp := .ok .unit, xp.cb := s.xp.cb ++ bs }) ∧
    (¬ legal → appendCommand c s = .next { s with resp := .error .invalidArgument }) :=
  ⟨fun hl => h.gives hl ▸ rfl, fun hl => h.rejects hl ▸ rfl⟩

/-! ## The formats with a length -/

theorem formatY_givesWhen (p : Params) (c : Cmd) (payload : Bytes) (off n : Nat) :
    GivesWhen (1 ≤ n ∧ n ≤ 65536 ∧ off + n ≤ payload.length) (transferBytes p c ((payload.drop off).take n))
      (formatY p c payload off n) where
  gives := fun ⟨h1, h2, hin⟩ => formatY_of_legal p c h1 h2 hin
  rejects h := by
    by_cases hlen : legalByteCount n = true
    · have hin : ¬ insidePayload payload off n = true := by
        simp only [legalByteCount, insidePayload, decide_eq_true_eq] at hlen ⊢
        omega
      rw [formatY, if_pos hlen, if_neg hin]
    · rw [formatY, if_neg hlen]

theorem formatYI_givesWhen (p : Params) (c : Cmd) (n : Nat) :
    GivesWhen (1 ≤ n ∧ n ≤ 65536) (byteInCommand p c n) (formatYI p c n) where
  gives h := by rw [formatYI, legalByteCount, if_pos (decide_eq_true h), byteHeader, wireLen_eq, byteInCommand]
  rejects h := by simp [formatYI, legalByteCount, h]

theorem formatB_givesWhen (p : Params) (c : Cmd) (data : Byte) (k : Nat) :
    GivesWhen (1 ≤ k ∧ k ≤ 8) (bitOutCommand p c data k) (formatB p c data k) where
  gives h := by rw [formatB, legalBitCount, if_pos (decide_eq_true h)]; rfl
  rejects h := by simp [formatB, legalBitCount, h]

theorem formatBI_givesWhen (p : Params) (c : Cmd) (k : Nat) :
    GivesWhen (1 ≤ k ∧ k ≤ 8) (bitInCommand p c k) (formatBI p c k) where
  gives h := by rw [formatBI, legalBitCount, if_pos (decide_eq_true h)]; rfl
  rejects h := by simp [formatBI, legalBitCount, h]

/-! ## The function forms -/

/-- Settles O7: each row answers the bytes of its format, which is never rejected. -/
theorem plainCommandFunctionsAnswerTheirBytes : Obligations.PlainCommandFunctionsAnswerTheirBytes := by
  refine ⟨fun x hx s => ?_, fun div s => ?_, fun val dir s => ⟨rfl, rfl⟩⟩
  · simp only [List.mem_cons, List.not_mem_nil, or_false] at hx
    rcases hx with rfl | rfl | rfl | rfl | rfl | rfl | rfl | rfl | rfl | rfl | rfl | rfl | rfl <;> rfl
  · rw [← formatD_eq]; rfl

/-- Settles O8: every row is the function form of one `formatY` call. -/
theorem payloadCommandFunctionsAnswerTheirBytes : Obligations.PayloadCommandFunctionsAnswerTheirBytes := by
  intro x hx payload off len s
  have hcall := (formatY_givesWhen s.params x.2 payload (offsetOf off) (lengthOf payload off len)).answers s
  simp only [List.mem_cons, List.not_mem_nil, or_false] at hx
  rcases hx with rfl | rfl | rfl | rfl | rfl | rfl | rfl | rfl <;> exact hcall

/-- Settles O9: every row is the function form of one `formatYI` call. -/
theorem byteInCommandFunctionsAnswerTheirBytes : Obligations.ByteInCommandFunctionsAnswerTheirBytes := by
  intro x hx n s
  have hcall := (formatYI_givesWhen s.params x.2 n).answers s
  simp only [List.mem_cons, List.not_mem_nil, or_false] at hx
  rcases hx with rfl | rfl | rfl | rfl <;> exact hcall

/-- Settles O10: the rows that send are `formatB` calls, the others `formatBI` calls. -/
theorem bitCommandFunctionsAnswerTheirBytes : Obligations.BitCommandFunctionsAnswerTheirBytes := by
  refine ⟨fun x hx data k s => ?_, fun x hx k s => ?_⟩
  · have hcall := (formatB_givesWhen s.params x.2 data k).answers s
    simp only [List.mem_cons, List.not_mem_nil, or_false] at hx
    rcases hx with rfl | rfl | rfl | rfl | rfl | rfl | rfl | rfl <;> exact hcall
  · have hcall := (formatBI_givesWhen s.params x.2 k).answers s
    simp only [List.mem_cons, List.not_mem_nil, or_false] at hx
    rcases hx with rfl | rfl | rfl | rfl <;> exact hcall

/-! ## The ENC requests -/

/-- Settles O11: each request appends the bytes of its format, which is never rejected. -/
theorem plainEncRequestsAppendTheirBytes : Obligations.PlainEncRequestsAppendTheirBytes := by
  refine ⟨fun x hx s => ?_, fun div s => ?_, fun val dir s => ⟨rfl, rfl⟩⟩
  · simp only [List.mem_cons, List.not_mem_nil, or_false] at hx
    rcases hx with rfl | rfl | rfl | rfl | rfl | rfl | rfl | rfl | rfl | rfl | rfl | rfl | rfl <;> rfl
  · rw [← formatD_eq]; rfl

/-- Settles O12: every request appends what one `formatY` call gives. -/
theorem payloadEncRequestsAppendTheirBytes : Obligations.PayloadEncRequestsAppendTheirBytes := by
  intro x hx payload off len s
  have hcall := (formatY_givesWhen s.params x.2 payload (offsetOf off) (lengthOf payload off len)).appends s
  simp only [List.mem_cons, List.not_mem_nil, or_false] at hx
  rcases hx with rfl | rfl | rfl | rfl | rfl | rfl | rfl | rfl <;> exact hcall

/-- Settles O13: every request appends what one `formatYI` call gives. -/
theorem byteInEncRequestsAppendTheirBytes : Obligations.ByteInEncRequestsAppendTheirBytes := by
  intro x hx n s
  have hcall := (formatYI_givesWhen s.params x.2 n).appends s
  simp only [List.mem_cons, List.not_mem_nil, or_false] at hx
  rcases hx with rfl | rfl | rfl | rfl <;> exact hcall

/-- Settles O14: the requests that send append what one `formatB` call gives, the others what one `formatBI` call
gives. -/
theorem bitEncRequestsAppendTheirBytes : Obligations.BitEncRequestsAppendTheirBytes := by
  refine ⟨fun x hx data k s => ?_, fun x hx k s => ?_⟩
  · have hcall := (formatB_givesWhen s.params x.2 data k).appends s
    simp only [List.mem_cons, List.not_mem_nil, or_false] at hx
    rcases hx with rfl | rfl | rfl | rfl | rfl | rfl | rfl | rfl <;> exact hcall
  · have hcall := (formatBI_givesWhen s.params x.2 k).appends s
    simp only [List.mem_cons, List.not_mem_nil, or_false] at hx
    rcases hx with rfl | rfl | rfl | rfl <;> exact hcall

end Sys2Proof.Machine
end

section
/-! PROOFS. The length field of the twenty-four transfer functions (R94, R95, R165): for each of the four formats that
carry one, the field read back gives the length and an illegal length is rejected. Every function is one of these formats
at its own opcode. -/

namespace Sys2Proof.Machine

/-! ## The field read back -/

/-- The two length bytes of R94 read as numbers; `halfOf_lengthBytes` reads them as the engine's half word. -/
theorem lengthBytes_toNat {n : Nat} (h1 : 1 ≤ n) (h2 : n ≤ 65536) :
    (BitVec.ofNat 8 ((n - 1) % 256)).toNat + 256 * (BitVec.ofNat 8 ((n - 1) / 256)).toNat + 1 = n := by
  rw [← halfOf_toNat]
  exact halfOf_lengthBytes h1 h2

/-- The bit-length byte of R95. -/
theorem bitLength_toNat {k : Nat} (h1 : 1 ≤ k) (h2 : k ≤ 8) : (BitVec.ofNat 8 (k - 1)).toNat + 1 = k := by
  rw [BitVec.toNat_ofNat]
  omega

/-! ## The formats with a length -/

theorem formatY_lengthField (p : Params) (c : Cmd) (payload : Bytes) (off n : Nat) :
    (1 ≤ n → n ≤ 65536 → off + n ≤ payload.length →
      ∃ op lo hi : Byte, formatY p c payload off n = .ok (op :: lo :: hi :: (payload.drop off).take n) ∧
        lo.toNat + 256 * hi.toNat + 1 = n) ∧
    (n = 0 ∨ n > 65536 → formatY p c payload off n = .error .invalidArgument) := by
  have hcall := formatY_givesWhen p c payload off n
  refine ⟨fun h1 h2 hin => ?_, fun hbad => hcall.rejects (by omega)⟩
  have hlength : ((payload.drop off).take n).length = n := memRead_length hin
  refine ⟨_, _, _, hcall.gives ⟨h1, h2, hin⟩, ?_⟩
  rw [hlength]
  exact lengthBytes_toNat h1 h2

theorem formatYI_lengthField (p : Params) (c : Cmd) (n : Nat) :
    (1 ≤ n → n ≤ 65536 →
      ∃ op lo hi : Byte, formatYI p c n = .ok [op, lo, hi] ∧ lo.toNat + 256 * hi.toNat + 1 = n) ∧
    (n = 0 ∨ n > 65536 → formatYI p c n = .error .invalidArgument) :=
  have hcall := formatYI_givesWhen p c n
  ⟨fun h1 h2 => ⟨_, _, _, hcall.gives ⟨h1, h2⟩, lengthBytes_toNat h1 h2⟩, fun hbad => hcall.rejects (by omega)⟩

theorem formatB_lengthField (p : Params) (c : Cmd) (data : Byte) (k : Nat) :
    (1 ≤ k → k ≤ 8 → ∃ op g : Byte, formatB p c data k = .ok [op, g, data] ∧ g.toNat + 1 = k) ∧
    (k = 0 ∨ k > 8 → formatB p c data k = .error .invalidArgument) :=
  have hcall := formatB_givesWhen p c data k
  ⟨fun h1 h2 => ⟨_, _, hcall.gives ⟨h1, h2⟩, bitLength_toNat h1 h2⟩, fun hbad => hcall.rejects (by omega)⟩

theorem formatBI_lengthField (p : Params) (c : Cmd) (k : Nat) :
    (1 ≤ k → k ≤ 8 → ∃ op g : Byte, formatBI p c k = .ok [op, g] ∧ g.toNat + 1 = k) ∧
    (k = 0 ∨ k > 8 → formatBI p c k = .error .invalidArgument) :=
  have hcall := formatBI_givesWhen p c k
  ⟨fun h1 h2 => ⟨_, _, hcall.gives ⟨h1, h2⟩, bitLength_toNat h1 h2⟩, fun hbad => hcall.rejects (by omega)⟩

/-! ## The transfer functions -/

/-- Settles O5: every function of a list is the list's format at one opcode. -/
theorem lengthFieldsRoundTrip : Obligations.LengthFieldsRoundTrip := by
  refine ⟨fun f hf p payload off n => ?_, fun f hf p n => ?_, fun f hf p data k => ?_, fun f hf p k => ?_⟩ <;>
    simp only [List.mem_cons, List.not_mem_nil, or_false] at hf
  · rcases hf with rfl | rfl | rfl | rfl | rfl | rfl | rfl | rfl <;> exact formatY_lengthField p _ payload off n
  · rcases hf with rfl | rfl | rfl | rfl <;> exact formatYI_lengthField p _ n
  · rcases hf with rfl | rfl | rfl | rfl | rfl | rfl | rfl | rfl <;> exact formatB_lengthField p _ data k
  · rcases hf with rfl | rfl | rfl | rfl <;> exact formatBI_lengthField p _ k

end Sys2Proof.Machine
end

section
/-! PROOFS. The named sequences of the I2C unit and its two bit tests (R182, R186 to R192, R206), and the requests that
do not read: the settings (R186, R187), START (R194) and STOP (R195). -/

namespace Sys2Proof.Machine

/-! ## The named sequences -/

theorem rep_eq (k : Nat) (bs : Bytes) : rep k bs = (List.replicate k bs).flatten := by
  induction k with
  | zero => rfl
  | succ k ih => rw [rep, ih, List.replicate_succ, List.flatten_cons]

/-- Settles O19: repetitions are flattened replicates, the divisor's bytes are those of its format, and the rest of
each sequence is its definition. -/
theorem i2cSequencesAreTheRules : Obligations.I2cSequencesAreTheRules := by
  intro s b div
  refine ⟨?_, ?_, ?_, rfl, rfl, rfl⟩
  · rw [i2cInitSeq, encSetClockDivisor, formatD_eq]; rfl
  · simp only [i2cStartSeq, rep_eq]; rfl
  · simp only [i2cStopSeq, rep_eq]; rfl

/-! ## Address framing and the acknowledgment test -/

theorem bitByte_toNat_lt (rw : Bit) : (bitByte rw).toNat < 2 := by cases rw <;> decide

theorem frame_toNat (a7 : Addr7) (rw : Bit) : (frame a7 rw).toNat = 2 * a7.toNat + (bitByte rw).toNat := by
  have hshift : (a7.setWidth 8 <<< 1).toNat = a7.toNat <<< 1 := by
    simp only [BitVec.toNat_shiftLeft, BitVec.toNat_setWidth, Nat.shiftLeft_eq]
    omega
  rw [frame, BitVec.toNat_or, hshift, ← Nat.shiftLeft_add_eq_or_of_lt (bitByte_toNat_lt rw), Nat.shiftLeft_eq]
  omega

/-- Settles O20, by the framing of either intent. -/
theorem addressFraming : Obligations.AddressFraming := fun a7 => ⟨frame_toNat a7 .zero, frame_toNat a7 .one⟩

theorem acked_eq_isAck (r : Byte) : acked r = isAck r := by
  rw [acked, isAck, BitVec.getLsbD, Nat.testBit_zero]
  rcases Nat.mod_two_eq_zero_or_one r.toNat with h | h <;> rw [h] <;> rfl

/-- Settles O21: the test is the parity of the byte. -/
theorem ackTestIsBitZero : Obligations.AckTestIsBitZero := by
  intro r
  rw [acked_eq_isAck, isAck]
  exact ⟨fun h => by rw [h]; rfl, fun h => by rw [h]; rfl⟩

/-! ## The settings -/

theorem legalTiming_iff (t1 t2 t3 t4 t5 : Nat) :
    legalTiming t1 t2 t3 t4 t5 = true ↔ ∀ t ∈ [t1, t2, t3, t4, t5], 1 ≤ t ∧ t ≤ 255 := by
  simp [legalTiming, legalCount, and_assoc]

section
variable {div : Half} {t1 t2 t3 t4 t5 : Nat} {s : State}

theorem exec_i2cInit_legal (h : legalTiming t1 t2 t3 t4 t5 = true) :
    exec (.i2cInit div t1 t2 t3 t4 t5) s = .next (respondWith
      (andThen (onFailure executeBuffer fun s => s.setI2cReady false)
        (fun _ => andThen (update fun s => s.setI2cReady true) fun _ => ret .unit)
        (s.i2cInitSent div t1 t2 t3 t4 t5))) := by
  simp only [exec, execI2cInit, if_pos h]; rfl

theorem exec_i2cInit_illegal (h : ¬ legalTiming t1 t2 t3 t4 t5 = true) :
    exec (.i2cInit div t1 t2 t3 t4 t5) s = .next (s.respond (.error .invalidArgument)) := by
  simp only [exec, execI2cInit, if_neg h]; rfl

theorem exec_i2cSetTiming_ready (hr : s.i2c.ready = true) :
    exec (.i2cSetTiming t1 t2 t3 t4 t5) s = .next (
      if legalTiming t1 t2 t3 t4 t5 = true then (s.setTiming t1 t2 t3 t4 t5).respond (.ok .unit)
      else s.respond (.error .invalidArgument)) := by
  simp only [exec, execI2cSetTiming]
  rw [i2cRequest_allowed hr rfl]
  split <;> rfl

end

/-- Settles O22: the two ends of the flush of I2C.Init, and the check both requests start with. -/
theorem i2cInitAndSetTiming : Obligations.I2cInitAndSetTiming := by
  intro s div t1 t2 t3 t4 t5
  dsimp only
  rw [← legalTiming_iff]
  refine ⟨fun hlegal hok => ?_, fun hlegal hlost => ?_, exec_i2cInit_illegal, fun hr hlegal => ?_, fun hr hlegal => ?_⟩
  · have hflush := executeBuffer_of_ok (s := s.i2cInitSent div t1 t2 t3 t4 t5) hok
    rw [exec_i2cInit_legal hlegal, andThen_of_done (onFailure_of_done hflush _)]; rfl
  · have hflush := executeBuffer_of_lost (s := s.i2cInitSent div t1 t2 t3 t4 t5) hlost
    rw [exec_i2cInit_legal hlegal, andThen_of_raised (onFailure_of_raised hflush _)]; rfl
  · rw [exec_i2cSetTiming_ready hr, if_pos hlegal]; rfl
  · rw [exec_i2cSetTiming_ready hr, if_neg hlegal]; rfl

/-! ## START and STOP -/

theorem fsmOpen_iff (f : Fsm) : fsmOpen f = true ↔ f = .started ∨ f = .byteOut ∨ f = .byteIn := by
  cases f <;> decide

/-- The state after the START sequence is queued (R194). -/
def State.startQueued (s : State) : State := (s.enqueue (i2cStartSeq s)).setFsm .started

theorem i2cStart_apply (s : State) : i2cStart s = .done () s.startQueued := rfl

/-- Settles O23: START is allowed everywhere but in Stopped and is its two register writes. -/
theorem i2cStartAppends : Obligations.I2cStartAppends := by
  intro s hr hf
  have hallowed : (s.i2c.fsm == .idle || fsmOpen s.i2c.fsm) = true := by
    revert hf; cases s.i2c.fsm <;> decide
  rw [exec, execI2cStart, i2cRequest_allowed hr hallowed]
  rfl

/-- The state in which a STOP is flushed (R195). -/
def State.stopQueued (s : State) : State := (s.enqueue (i2cStopSeq s)).setFsm .stopped

/-- A STOP is delivered or lost with the buffer; the unit is Idle either way (R195, R205). -/
theorem i2cStop_cases (s : State) :
    (s.stopQueued.answer.ok = true ∧ i2cStop s = .done () (s.stopQueued.flushed.setFsm .idle)) ∨
    (s.stopQueued.answer.ok = false ∧
      i2cStop s = .raised .transportFailure (s.stopQueued.flushLost.setFsm .idle)) := by
  have hstop : i2cStop s = andThen (idleOnFailure executeBuffer) (fun _ => goTo .idle) s.stopQueued := rfl
  rw [hstop]
  rcases executeBuffer_cases s.stopQueued with ⟨hok, hflush⟩ | ⟨hlost, hflush⟩
  · exact .inl ⟨hok, andThen_of_done (onFailure_of_done hflush _) _⟩
  · exact .inr ⟨hlost, andThen_of_raised (onFailure_of_raised hflush _) _⟩

theorem flushThen_of_ok {s : State} (h : s.answer.ok = true) (good : State → State) :
    flushThen s good = good s.flushed := if_pos h

theorem flushThen_of_lost {s : State} (h : s.answer.ok = false) (good : State → State) :
    flushThen s good = s.flushLost.respond (.error .transportFailure) := if_neg (Bool.eq_false_iff.mp h)

/-- Settles O24, by the two ends of a STOP. -/
theorem i2cStopFlushes : Obligations.I2cStopFlushes := by
  intro s hr hf
  change exec .i2cStop s = .next (idle (flushThen s.stopQueued fun t => t.respond (.ok .unit)))
  rw [exec, execI2cStop, i2cRequest_allowed hr ((fsmOpen_iff _).mpr hf)]
  rcases i2cStop_cases s with ⟨hok, hrun⟩ | ⟨hlost, hrun⟩
  · rw [andThen_of_done hrun, flushThen_of_ok hok]; rfl
  · rw [andThen_of_raised hrun, flushThen_of_lost hlost]; rfl

end Sys2Proof.Machine
end

section
/-! PROOFS. One exchange: a sequence queued, flushed with its SendImmediate, and its response bytes read (R183). Every
I2C request that reads is made of exchanges: the byte requests of one (R196 to R198), the fast ones of one batch (R203,
R204). -/

namespace Sys2Proof.Machine

/-! ## The exchange -/

/-- `seq` is enqueued, `I2C_FSM` goes to `f`, and the flush's `n` response bytes are read (R183, R205). -/
def exchange (seq : State → Bytes) (f : Fsm) (n : Nat) : Req Bytes :=
  andThen (update fun s => s.enqueue (seq s)) fun _ => andThen (goTo f) fun _ => idleOnFailure (flushExpect n)

/-- The state in which an exchange of the bytes `bs` is flushed. -/
def State.exchangeQueued (s : State) (bs : Bytes) (f : Fsm) : State :=
  ((s.enqueue bs).setFsm f).enqueue (immediateBytes s.params)

@[simp] theorem State.exchangeQueued_params (s : State) (bs : Bytes) (f : Fsm) :
    (s.exchangeQueued bs f).params = s.params := rfl

theorem exchangeQueued_eq (s : State) (bs : Bytes) (f : Fsm) :
    s.exchangeQueued bs f = (s.enqueue (bs ++ immediateBytes s.params)).setFsm f := by
  simp [State.exchangeQueued, State.enqueue, State.setFsm]

theorem flushExpect_eq {n : Nat} (hn : 1 ≤ n) (s : State) :
    flushExpect n s = andThen executeBuffer (fun _ => read n) (s.enqueue (immediateBytes s.params)) := by
  rw [flushExpect, andThen_update]
  by_cases hp : s.params.sendImmediate = true
  · rw [if_pos ⟨hn, hp⟩, immediateBytes, if_pos hp]; rfl
  · have hnothing : s.enqueue (immediateBytes s.params) = s := by
      rw [immediateBytes, if_neg hp, State.enqueue, List.append_nil]
    rw [if_neg fun hc => hp hc.2, hnothing]

section
variable {seq : State → Bytes} {f : Fsm} {n : Nat}

/-- An exchange reads its `n` bytes, or loses them or the buffer and leaves the unit Idle (R183, R205). -/
theorem exchange_cases (hn : 1 ≤ n) (s : State) :
    let t := s.exchangeQueued (seq s) f
    (t.answer.ok = true ∧ t.flushed.readOk n = true ∧
      exchange seq f n s = .done (t.flushed.xp.rxq.take n) (t.flushed.taken n)) ∨
    (t.answer.ok = true ∧ t.flushed.readOk n = false ∧
      exchange seq f n s = .raised .transportFailure (t.flushed.readLost.setFsm .idle)) ∨
    (t.answer.ok = false ∧ exchange seq f n s = .raised .transportFailure (t.flushLost.setFsm .idle)) := by
  intro t
  have hflush : flushExpect n ((s.enqueue (seq s)).setFsm f) = andThen executeBuffer (fun _ => read n) t :=
    flushExpect_eq hn _
  have hexchange : exchange seq f n s = idleOnFailure (flushExpect n) ((s.enqueue (seq s)).setFsm f) := rfl
  rw [hexchange]
  rcases executeBuffer_cases t with ⟨hok, hrun⟩ | ⟨hlost, hrun⟩
  · rw [andThen_of_done hrun] at hflush
    rcases read_cases n t.flushed with ⟨hzero, -⟩ | ⟨-, hread, hrun'⟩ | ⟨-, hread, hrun'⟩
    · omega
    · exact .inl ⟨hok, hread, onFailure_of_done (hflush.trans hrun') _⟩
    · exact .inr (.inl ⟨hok, hread, onFailure_of_raised (hflush.trans hrun') _⟩)
  · rw [andThen_of_raised hrun] at hflush
    exact .inr (.inr ⟨hlost, onFailure_of_raised hflush _⟩)

/-- A request that starts with an exchange, by the environment's two answers. -/
theorem respondWith_exchange (hn : 1 ≤ n) (k : Bytes → Req Result) (s : State) :
    let t := s.exchangeQueued (seq s) f
    respondWith (andThen (exchange seq f n) k s) =
      if t.answer.ok = true then
        if t.flushed.answer.ok = true ∧ n ≤ t.flushed.xp.rxq.length then
          respondWith (k (t.flushed.xp.rxq.take n) (t.flushed.taken n))
        else idle (t.flushed.readLost.respond (.error .transportFailure))
      else idle (t.flushLost.respond (.error .transportFailure)) := by
  intro t
  rcases exchange_cases (seq := seq) (f := f) hn s with ⟨hok, hread, hrun⟩ | ⟨hok, hread, hrun⟩ | ⟨hlost, hrun⟩
  · rw [if_pos hok, if_pos ((State.readOk_iff ..).mp hread), andThen_of_done hrun]
  · rw [if_pos hok, if_neg (mt (State.readOk_iff ..).mpr (Bool.eq_false_iff.mp hread)), andThen_of_raised hrun]; rfl
  · rw [if_neg (Bool.eq_false_iff.mp hlost), andThen_of_raised hrun]; rfl

end

/-! ## The byte requests -/

theorem i2cSendByte_eq (b : Byte) : i2cSendByte b =
    andThen (exchange (fun s => i2cOutSeq s.params b) .byteOut 1) fun r => ret (acked (r.headD 0)) := rfl

theorem i2cReceiveByte_eq (a : Bool) : i2cReceiveByte a =
    andThen (exchange (fun s => i2cInSeq s.params a) .byteIn 1) fun r => ret (r.headD 0) := rfl

theorem headD_take_one (bs : Bytes) : (bs.take 1).headD 0 = bs.headD 0 := by cases bs <;> rfl

/-- Settles O25: both requests are one exchange of a byte-out, allowed where its state is. -/
theorem i2cSendsOneByte : Obligations.I2cSendsOneByte := by
  intro s b a7 intent hr sent after
  have hsend (x : Byte) : respondWith (andThen (i2cSendByte x) (fun ack => ret (.bool ack)) s) = after (sent x) := by
    rw [i2cSendByte_eq, andThen_assoc, respondWith_exchange (le_refl 1)]
    simp only [andThen_ret, headD_take_one, acked_eq_isAck]
    rfl
  refine ⟨fun hf => ?_, fun hf => ?_⟩
  · rw [exec, execI2cSendByte, i2cRequest_allowed hr ((fsmOpen_iff _).mpr hf), hsend]
  · rw [exec, execI2cSendAddress, i2cRequest_allowed hr (by rw [hf]; rfl), i2cSendAddress, hsend]

/-- Settles O26: the request is one exchange of a byte-in. -/
theorem i2cReceivesOneByte : Obligations.I2cReceivesOneByte := by
  intro s a hr hf t
  rw [exec, execI2cReceiveByte, i2cRequest_allowed hr ((fsmOpen_iff _).mpr hf), i2cReceiveByte_eq, andThen_assoc,
    respondWith_exchange (le_refl 1)]
  simp only [andThen_ret, headD_take_one]
  rfl

/-! ## The fast requests -/

theorem fastBatch_eq (seq : State → Bytes) (n : Nat) : fastBatch seq n =
    andThen (exchange seq .stopped n) fun r => andThen (goTo .idle) fun _ => ret r := rfl

theorem readThen_of_ok {s : State} {n : Nat} (h : s.readOk n = true) (good : Bytes → State → State) :
    readThen s n good = good (s.xp.rxq.take n) (s.taken n) := if_pos ((s.readOk_iff n).mp h)

theorem readThen_of_lost {s : State} {n : Nat} (h : s.readOk n = false) (good : Bytes → State → State) :
    readThen s n good = s.readLost.respond (.error .transportFailure) :=
  if_neg (mt (s.readOk_iff n).mpr (Bool.eq_false_iff.mp h))

/-- A batch is flushed once and read once, and the unit is Idle whatever the environment answers (R203 to R205). -/
theorem respondWith_fastBatch {seq : State → Bytes} {n : Nat} (hn : 1 ≤ n) {k : Bytes → Req Result}
    {good : Bytes → State → State} {s : State}
    (hk : ∀ r u, r.length = n → u.params = s.params → respondWith (k r (idle u)) = idle (good r u)) :
    respondWith (andThen (fastBatch seq n) k s) =
      idle (flushThen (s.exchangeQueued (seq s) .stopped) fun t => readThen t n good) := by
  rw [fastBatch_eq, andThen_assoc]
  rcases exchange_cases (seq := seq) (f := .stopped) hn s with
    ⟨hok, hread, hrun⟩ | ⟨hok, hread, hrun⟩ | ⟨hlost, hrun⟩
  · have hlen := List.length_take_of_le ((State.readOk_iff ..).mp hread).2
    rw [andThen_of_done hrun, flushThen_of_ok hok, readThen_of_ok hread]
    exact hk _ ((s.exchangeQueued (seq s) .stopped).flushed.taken n) hlen (by simp)
  · rw [andThen_of_raised hrun, flushThen_of_ok hok, readThen_of_lost hread]; rfl
  · rw [andThen_of_raised hrun, flushThen_of_lost hlost]; rfl

/-- The lowest checked missing acknowledgment, as a search through the indices. -/
theorem firstNack_eq_find (checked : Nat → Bool) (j : Nat) (rs : Bytes) :
    firstNack checked j rs = (List.range' j rs.length).find? fun i => checked i && !isAck (rs.getD (i - j) 0) := by
  induction rs generalizing j with
  | nil => rfl
  | cons r rs ih =>
    have hrest : ((List.range' (j + 1) rs.length).find? fun i => checked i && !isAck ((r :: rs).getD (i - j) 0)) =
        (List.range' (j + 1) rs.length).find? fun i => checked i && !isAck (rs.getD (i - (j + 1)) 0) := by
      refine List.find?_congr fun i hi => ?_
      obtain ⟨hlow, -⟩ := List.mem_range'_1.mp hi
      rw [show i - j = i - (j + 1) + 1 by omega, List.getD_cons_succ]
    rw [firstNack, List.length_cons, List.range'_succ, List.find?_cons, Nat.sub_self, List.getD_cons_zero, hrest, ← ih,
      acked_eq_isAck]
    split <;> simp [*]

theorem firstNack_zero (checked : Nat → Bool) {rs : Bytes} {n : Nat} (h : rs.length = n) :
    firstNack checked 0 rs = (List.range n).find? fun i => checked i && !isAck (rs.getD i 0) := by
  rw [firstNack_eq_find, h, List.range_eq_range']
  rfl

/-- Settles O33: the request is one batch, whose acknowledgments are searched at the end. -/
theorem i2cFastWriteBatches : Obligations.I2cFastWriteBatches := by
  intro s a7 reg data hr hf s1
  have hs1 : s1 = s.exchangeQueued (fastWriteSeq s a7 reg data) .stopped := (exchangeQueued_eq ..).symm
  rw [exec, execI2cFastWrite, i2cRequest_allowed hr (by rw [hf]; rfl), hs1]
  refine congrArg _ (respondWith_fastBatch (by omega) fun r u hlen hparams => ?_)
  have hidle : (idle u).params = s.params := hparams
  rw [withState_apply, firstNack_zero _ hlen, hidle]
  split <;> rename_i hfind <;> rw [hfind] <;> rfl

/-- Only the three header bytes of I2C.FastRead are checked (R204). -/
theorem firstNack_header {r : Bytes} {n : Nat} (h : r.length = 3 + n) :
    firstNack (fun j => decide (j < 3)) 0 r = (List.range 3).find? fun j => !isAck (r.getD j 0) := by
  have hheader : ((List.range 3).find? fun j => decide (j < 3) && !isAck (r.getD j 0)) =
      (List.range 3).find? fun j => !isAck (r.getD j 0) :=
    List.find?_congr fun j hj => by rw [decide_eq_true (List.mem_range.mp hj), Bool.true_and]
  have hdata : (((List.range n).map (3 + ·)).find? fun j => decide (j < 3) && !isAck (r.getD j 0)) = none := by
    simp [List.find?_eq_none]
  rw [firstNack_zero _ h, List.range_add, List.find?_append, hdata, Option.or_none, hheader]

/-- Settles O34: a count of 0 is rejected, and any other is one batch whose header is searched at the end. -/
theorem i2cFastReadBatches : Obligations.I2cFastReadBatches := by
  intro s a7 reg n hr hf
  refine ⟨?_, fun hn => ?_⟩
  · rw [exec, execI2cFastRead, i2cRequest_allowed hr (by rw [hf]; rfl)]; rfl
  intro s1
  have hs1 : s1 = s.exchangeQueued (fastReadSeq s a7 reg n) .stopped := by
    rw [exchangeQueued_eq, ← fastReadBytes_eq]; rfl
  rw [exec, execI2cFastRead, i2cRequest_allowed hr (by rw [hf]; rfl), if_neg (by omega), hs1]
  refine congrArg _ (respondWith_fastBatch (by omega) fun r u hlen _ => ?_)
  rw [firstNack_header hlen]
  split <;> rename_i hfind <;> rw [hfind] <;> rfl

end Sys2Proof.Machine
end

section
/-! PROOFS. I2C transactions with every transport call answered (R66, log 8): what each step makes of the state from the
bytes it delivers and the answers it takes, and the transactions of R199, R201 and R202 as runs of legs, each ended by a
byte-out whose acknowledgment may be tested. -/

namespace Sys2Proof.Machine

/-! ## The state after answered transport calls -/

/-- `n` transport calls later: `bs` delivered after what waited, every response byte read, `script` left of the answers,
`I2C_FSM` at `f`. -/
def State.transacted (s : State) (bs : Bytes) (f : Fsm) (script : List Answer) (n : Nat) : State :=
  { s with
    script := script
    calls := s.calls + n
    xp.wire := s.xp.wire ++ s.xp.cb ++ bs
    xp.cb := []
    xp.rxq := []
    i2c.fsm := f }

@[simp] theorem State.transacted_params (s : State) (bs : Bytes) (f : Fsm) (script : List Answer) (n : Nat) :
    (s.transacted bs f script n).params = s.params := rfl

@[simp] theorem i2cStopSeq_transacted (s : State) (bs : Bytes) (f : Fsm) (script : List Answer) (n : Nat) :
    i2cStopSeq (s.transacted bs f script n) = i2cStopSeq s := rfl

@[simp] theorem State.transacted_transacted (s : State) (bs bs' : Bytes) (f f' : Fsm) (script script' : List Answer)
    (n n' : Nat) :
    (s.transacted bs f script n).transacted bs' f' script' n' = s.transacted (bs ++ bs') f' script' (n + n') := by
  simp [State.transacted, Nat.add_assoc]

theorem startQueued_transacted (s : State) (bs : Bytes) (f : Fsm) (script : List Answer) (n : Nat) :
    s.startQueued.transacted bs f script n = s.transacted (i2cStartSeq s ++ bs) f script n := by
  simp [State.transacted, State.startQueued, State.enqueue, State.setFsm]

theorem steady_transacted {β : Type} {g : State → β} (hg : Steady g) (s : State) (bs : Bytes) (f : Fsm)
    (script : List Answer) (n : Nat) : g (s.transacted bs f script n) = g s :=
  hg.congr rfl

/-! ## Single steps -/

/-- What is queued and flushed brings exactly the bytes it owes (R123). -/
theorem Queued.arrivals {s u : State} {bs : Bytes} {n : Nat} (h : Queued s bs u) (hs : s.accounted)
    (hbs : responseTotal s.params bs = some n) :
    u.arrivals = supply (Config.responseByte u.calls u.history) n 0 u.answer.bytes := by
  obtain ⟨-, hwire, hcb⟩ := hs
  obtain ⟨m, hm⟩ := Option.isSome_iff_exists.mp hwire
  refine arrivals_eq_supply (m := m) ?_ ?_
  · rw [h.params, h.xp]; exact hm
  · rw [h.params, h.xp, ← List.append_assoc]
    exact responseTotal_append_some (hcb.trans hm) hbs

/-- A piece that reads all its responses leaves them accounted for (R75). -/
theorem Sends.accounted {α : Type} {m : Req α} {f : State → Bytes} {s t : State} {v : α} (h : Sends 0 m f)
    (hrun : m s = .done v t) (hp : s.params.opc.toList.Nodup) (hs : s.accounted) : t.accounted := by
  have hran := h s
  rw [Ends, hrun] at hran
  exact t.accounted_iff.mpr (hran.balanced hp (s.accounted_iff.mp hs))

section
variable {s : State} {rest : List Answer} (hp : s.params.opc.toList.Nodup) (hs : s.accounted)
include hp hs

/-- An exchange of one byte whose flush and read both succeed (R183). -/
theorem exchange_answered {seq : State → Bytes} {f : Fsm} {r : Byte} (hseq : responseTotal s.params (seq s) = some 1)
    (hscript : s.script = byteAnswers r ++ rest) :
    exchange seq f 1 s = .done [r] (s.transacted (seq s ++ immediateBytes s.params) f rest 2) := by
  have hqueued : Queued s (seq s ++ immediateBytes s.params) (s.exchangeQueued (seq s) f) := by
    rw [exchangeQueued_eq]; exact ⟨rfl, rfl⟩
  have hanswer : (s.exchangeQueued (seq s) f).answer = ⟨true, [r]⟩ := answer_of_script hscript
  have harrivals : (s.exchangeQueued (seq s) f).arrivals = [r] := by
    rw [hqueued.arrivals hs (responseTotal_append_some hseq (responseTotal_immediateBytes hp)), hanswer]; rfl
  have hrxq : (s.exchangeQueued (seq s) f).flushed.xp.rxq = [r] := by
    rw [State.flushed_xp_rxq, harrivals, hqueued.xp, hs.1, List.nil_append]
  have hanswer' : (s.exchangeQueued (seq s) f).flushed.answer = ⟨true, []⟩ := by
    refine answer_of_script (rest := rest) ?_
    rw [State.flushed_script]
    exact congrArg List.tail hscript
  have hread : (s.exchangeQueued (seq s) f).flushed.readOk 1 = true := by
    rw [State.readOk, hanswer', hrxq]; rfl
  have hstate : (s.exchangeQueued (seq s) f).flushed.taken 1 =
      s.transacted (seq s ++ immediateBytes s.params) f rest 2 := by
    rw [State.taken, hrxq, exchangeQueued_eq]
    simp [State.transacted, hscript, byteAnswers, State.setFsm]
  rcases exchange_cases (seq := seq) (f := f) (le_refl 1) s with ⟨-, -, hrun⟩ | ⟨-, hlost, -⟩ | ⟨hlost, -⟩
  · rw [hrun, hrxq, hstate]; rfl
  · rw [hread] at hlost; cases hlost
  · rw [hanswer] at hlost; cases hlost

/-- A byte-out whose flush and read both succeed (R196). -/
theorem i2cSendByte_answered (b : Byte) {r : Byte} (hscript : s.script = byteAnswers r ++ rest) :
    i2cSendByte b s = .done (isAck r) (s.transacted (sentBytes s.params [b]) .byteOut rest 2) := by
  have hrun := exchange_answered (seq := fun s => i2cOutSeq s.params b) (f := .byteOut) hp hs
    (responseTotal_i2cOutSeq hp b) hscript
  rw [i2cSendByte_eq, andThen_of_done hrun, ret_apply, List.headD_cons, acked_eq_isAck, sentBytes,
    List.flatMap_singleton]

/-- A byte-in whose flush and read both succeed (R198). -/
theorem i2cReceiveByte_answered (a : Bool) {r : Byte} (hscript : s.script = byteAnswers r ++ rest) :
    i2cReceiveByte a s =
      .done r (s.transacted (i2cInSeq s.params a ++ immediateBytes s.params) .byteIn rest 2) := by
  have hrun := exchange_answered (seq := fun s => i2cInSeq s.params a) (f := .byteIn) hp hs
    (responseTotal_i2cInSeq hp a) hscript
  rw [i2cReceiveByte_eq, andThen_of_done hrun, ret_apply, List.headD_cons]

/-- A STOP whose flush succeeds (R195). -/
theorem i2cStop_answered (hscript : s.script = plainAnswer :: rest) :
    i2cStop s = .done () (s.transacted (i2cStopSeq s) .idle rest 1) := by
  have hqueued : Queued s (i2cStopSeq s) s.stopQueued := ⟨rfl, rfl⟩
  have hanswer : s.stopQueued.answer = plainAnswer := answer_of_script hscript
  have harrivals : s.stopQueued.arrivals = [] := by rw [hqueued.arrivals hs (responseTotal_i2cStopSeq hp)]; rfl
  have hstate : s.stopQueued.flushed.setFsm .idle = s.transacted (i2cStopSeq s) .idle rest 1 := by
    rw [State.flushed, harrivals, List.append_nil]
    simp [State.transacted, State.stopQueued, State.setFsm, State.enqueue, State.answered, hscript, hs.1]
  rcases i2cStop_cases s with ⟨-, hrun⟩ | ⟨hlost, -⟩
  · rw [hrun, hstate]
  · rw [hanswer] at hlost; cases hlost

end

/-- The STOP that ends a transaction. -/
theorem i2cStop_transacted {s : State} {bs : Bytes} {f : Fsm} {rest : List Answer} {n : Nat}
    (hp : s.params.opc.toList.Nodup) (hs : (s.transacted bs f (plainAnswer :: rest) n).accounted) :
    i2cStop (s.transacted bs f (plainAnswer :: rest) n) =
      .done () (s.transacted (bs ++ i2cStopSeq s) .idle rest (n + 1)) := by
  simpa using i2cStop_answered (s := s.transacted bs f (plainAnswer :: rest) n) hp hs rfl

/-! ## Legs -/

/-- A part of a transaction that ends with a byte-out (R196, R200): its steps and the bytes they deliver. -/
structure Leg where
  step : Req Bool
  bytes : State → Bytes
  steady : Steady bytes
  sends : Sends 0 step bytes
  answered : ∀ {s : State} {r : Byte} {rest : List Answer}, s.params.opc.toList.Nodup → s.accounted →
    s.script = byteAnswers r ++ rest → step s = .done (isAck r) (s.transacted (bytes s) .byteOut rest 2)

/-- One byte (R196). -/
def Leg.send (b : Byte) : Leg where
  step := i2cSendByte b
  bytes s := sentBytes s.params [b]
  steady _ := rfl
  sends := sends_i2cSendByte b
  answered hp hs := i2cSendByte_answered hp hs b

/-- START and an address (R194, R197). -/
def Leg.address (a7 : Addr7) (rw : Bit) : Leg where
  step := andThen i2cStart fun _ => i2cSendAddress a7 rw
  bytes s := i2cStartSeq s ++ sentBytes s.params [frame a7 rw]
  steady _ := rfl
  sends := sends_i2cStart.andThen fun _ => sends_i2cSendByte (frame a7 rw)
  answered {s r rest} hp hs hscript := by
    have hstarted : s.startQueued.accounted := sends_i2cStart.accounted (i2cStart_apply s) hp hs
    have hrun := i2cSendByte_answered (s := s.startQueued) hp hstarted (frame a7 rw) hscript
    rw [andThen_of_done (i2cStart_apply s), i2cSendAddress, hrun, startQueued_transacted]
    rfl

/-- The bytes of the legs of a transaction. -/
def legBytes (s : State) (legs : List Leg) : Bytes := legs.flatMap fun l => l.bytes s

@[simp] theorem legBytes_singleton (s : State) (l : Leg) : legBytes s [l] = l.bytes s := List.flatMap_singleton ..

theorem legBytes_transacted (s : State) (legs : List Leg) (bs : Bytes) (f : Fsm) (script : List Answer) (n : Nat) :
    legBytes (s.transacted bs f script n) legs = legBytes s legs :=
  List.flatMap_congr fun l _ => steady_transacted l.steady s bs f script n

/-- The legs in order, the first of them number `k`; where `checked` says so a missing acknowledgment ends the
transaction (R200 to R202). -/
def runLegs (checked : Params → Nat → Bool) (k : Nat) (legs : List Leg) : Req Unit :=
  match legs with
  | [] => ret ()
  | l :: rest =>
    andThen l.step fun ack => withState fun s =>
      if !ack && checked s.params k then nackAbort k else runLegs checked (k + 1) rest

section
variable {checked : Params → Nat → Bool} {k : Nat} {l : Leg} {legs : List Leg} {s : State} {r : Byte}
  {rest : List Answer} (hp : s.params.opc.toList.Nodup) (hs : s.accounted)
include hp hs

theorem Leg.accounted (hscript : s.script = byteAnswers r ++ rest) :
    (s.transacted (l.bytes s) .byteOut rest 2).accounted :=
  l.sends.accounted (l.answered hp hs hscript) hp hs

/-- A leg after which the transaction goes on. -/
theorem runLegs_cons_go (hscript : s.script = byteAnswers r ++ rest)
    (hack : checked s.params k = true → isAck r = true) :
    runLegs checked k (l :: legs) s = runLegs checked (k + 1) legs (s.transacted (l.bytes s) .byteOut rest 2) := by
  rw [runLegs, andThen_of_done (l.answered hp hs hscript), withState_apply, State.transacted_params, if_neg]
  cases hc : checked s.params k with
  | true => simp [hack hc]
  | false => simp

/-- A leg whose acknowledgment is tested and missing. -/
theorem runLegs_cons_abort (hscript : s.script = byteAnswers r ++ plainAnswer :: rest)
    (hchecked : checked s.params k = true) (hack : isAck r = false) :
    runLegs checked k (l :: legs) s =
      .raised (.protocolNack k) (s.transacted (l.bytes s ++ i2cStopSeq s) .idle rest 3) := by
  rw [runLegs, andThen_of_done (l.answered hp hs hscript), withState_apply, State.transacted_params,
    if_pos (by simp [hchecked, hack]), nackAbort,
    andThen_of_done (i2cStop_transacted hp (Leg.accounted hp hs hscript)), raise_apply]

end

/-- Every tested leg acknowledged: all of them are delivered and their responses read (R201, R202). -/
theorem runLegs_acknowledged {checked : Params → Nat → Bool} {k : Nat} {legs : List Leg} {acks : Bytes} {s : State}
    {rest : List Answer} (hp : s.params.opc.toList.Nodup) (hs : s.accounted) (hne : legs ≠ [])
    (hlen : acks.length = legs.length)
    (hacks : ∀ j < acks.length, checked s.params (k + j) = true → isAck (acks.getD j 0) = true)
    (hscript : s.script = acks.flatMap byteAnswers ++ rest) :
    let t := s.transacted (legBytes s legs) .byteOut rest (2 * legs.length)
    runLegs checked k legs s = .done () t ∧ t.accounted := by
  induction legs generalizing k acks s with
  | nil => exact absurd rfl hne
  | cons l legs ih =>
    obtain _ | ⟨r, acks⟩ := acks
    · cases hlen
    rw [List.flatMap_cons, List.append_assoc] at hscript
    have hgo := runLegs_cons_go (l := l) (legs := legs) (checked := checked) (k := k) hp hs hscript
      (hacks 0 (by simp))
    have haccounted := Leg.accounted (l := l) hp hs hscript
    cases legs with
    | nil =>
      obtain rfl : acks = [] := by simpa using hlen
      rw [hgo, legBytes_singleton]
      exact ⟨rfl, haccounted⟩
    | cons l' legs =>
      have hrest := ih (k := k + 1) (acks := acks) (s := s.transacted (l.bytes s) .byteOut _ 2) hp haccounted
        (by simp) (by simpa using hlen)
        (fun j hj hc => hacks (j + 1) (by simpa using hj) (by rwa [Nat.add_right_comm, Nat.add_assoc] at hc)) rfl
      rw [legBytes_transacted, State.transacted_transacted, ← hgo] at hrest
      simpa [legBytes, Nat.mul_add, Nat.add_comm] using hrest

/-- The first leg not acknowledged is a tested one: nothing after it is delivered but the STOP (R200). -/
theorem runLegs_missing {checked : Params → Nat → Bool} {k : Nat} {legs : List Leg} {acks : Bytes} {r : Byte}
    {s : State} {rest : List Answer} (hp : s.params.opc.toList.Nodup) (hs : s.accounted)
    (hlen : acks.length < legs.length) (hacks : ∀ x ∈ acks, isAck x = true) (hr : isAck r = false)
    (hchecked : checked s.params (k + acks.length) = true)
    (hscript : s.script = (acks ++ [r]).flatMap byteAnswers ++ plainAnswer :: rest) :
    runLegs checked k legs s = .raised (.protocolNack (k + acks.length))
      (s.transacted (legBytes s (legs.take (acks.length + 1)) ++ i2cStopSeq s) .idle rest
        (2 * (acks.length + 1) + 1)) := by
  induction acks generalizing k legs s with
  | nil =>
    obtain _ | ⟨l, legs⟩ := legs
    · cases hlen
    simpa using runLegs_cons_abort (l := l) (legs := legs) hp hs (by simpa using hscript) hchecked hr
  | cons a acks ih =>
    obtain _ | ⟨l, legs⟩ := legs
    · cases hlen
    rw [List.cons_append, List.flatMap_cons, List.append_assoc] at hscript
    obtain ⟨ha, hacks⟩ := List.forall_mem_cons.mp hacks
    have hgo := runLegs_cons_go (l := l) (legs := legs) (checked := checked) (k := k) hp hs hscript fun _ => ha
    have hrest := ih (k := k + 1) (legs := legs) (s := s.transacted (l.bytes s) .byteOut _ 2) hp
      (Leg.accounted hp hs hscript) (by simpa using hlen) hacks
      (by rwa [List.length_cons, ← Nat.add_assoc, Nat.add_right_comm] at hchecked) rfl
    rw [legBytes_transacted, State.transacted_transacted, ← hgo] at hrest
    have hindex : k + 1 + acks.length = k + (acks.length + 1) := by omega
    have hcalls : 2 + (2 * (acks.length + 1) + 1) = 2 * (acks.length + 1 + 1) + 1 := by omega
    rw [i2cStopSeq_transacted, ← List.append_assoc, hindex, hcalls] at hrest
    exact hrest

end Sys2Proof.Machine
end

section
/-! PROOFS. I2C.Write, I2C.Read and I2C.Scan with every transport call answered (R199, R201, R202): the first two as
runs of legs, and the loops of the last two over the answered bytes. -/

namespace Sys2Proof.Machine

/-! ## Requests as runs of legs -/

section
variable {checked : Params → Nat → Bool} {k : Nat}

/-- A leg that is always tested (R201, R202). -/
theorem runLegs_cons_of_checked (h : ∀ p, checked p k = true) (l : Leg) (legs : List Leg) :
    runLegs checked k (l :: legs) = andThen (expectAck k l.step) fun _ => runLegs checked (k + 1) legs := by
  rw [runLegs, expectAck, andThen_assoc]
  congr 1
  funext ack s
  rw [withState_apply, h]
  cases ack with
  | true => rfl
  | false => exact (congrFun (andThen_nackAbort k _) s).symm

theorem expectAck_andThen {α : Type} (m : Req α) (n : Req Bool) :
    expectAck k (andThen m fun _ => n) = andThen m fun _ => expectAck k n := by
  simp only [expectAck, andThen_assoc]

end

/-- The byte-outs of I2C.Write that are tested (R201). -/
def writeChecked (p : Params) (k : Nat) : Bool := decide (k < 2) || p.checkDataAck

/-- The legs of I2C.Write (R201). -/
def writeLegs (a7 : Addr7) (reg : Byte) (data : Bytes) : List Leg :=
  Leg.address a7 .zero :: Leg.send reg :: data.map Leg.send

theorem i2cWriteData_eq {k : Nat} (hk : 2 ≤ k) (data : Bytes) :
    i2cWriteData k data = runLegs writeChecked k (data.map Leg.send) := by
  induction data generalizing k with
  | nil => rfl
  | cons b data ih =>
    have hchecked (p : Params) : writeChecked p k = p.checkDataAck := by
      rw [writeChecked, decide_eq_false (by omega), Bool.false_or]
    rw [i2cWriteData, List.map_cons, runLegs, ih (by omega)]
    simp only [hchecked]
    rfl

theorem exec_i2cWrite_idle {s : State} (hr : s.i2c.ready = true) (hf : s.i2c.fsm = .idle) (a7 : Addr7) (reg : Byte)
    (data : Bytes) : exec (.i2cWrite a7 reg data) s = .next (respondWith
      (andThen (runLegs writeChecked 0 (writeLegs a7 reg data)) (fun _ => andThen i2cStop fun _ => ret .unit) s)) := by
  rw [exec, execI2cWrite, i2cRequest_allowed hr (by rw [hf]; rfl), writeLegs, runLegs_cons_of_checked fun _ => rfl,
    runLegs_cons_of_checked fun _ => rfl, ← i2cWriteData_eq (le_refl 2), Leg.address, expectAck_andThen]
  simp only [andThen_assoc]
  rfl

/-- The legs of the header of I2C.Read (R202). -/
def readLegs (a7 : Addr7) (reg : Byte) : List Leg := [Leg.address a7 .zero, Leg.send reg, Leg.address a7 .one]

theorem exec_i2cRead_idle {s : State} (hr : s.i2c.ready = true) (hf : s.i2c.fsm = .idle) (a7 : Addr7) (reg : Byte)
    {n : Nat} (hn : 1 ≤ n) : exec (.i2cRead a7 reg n) s = .next (respondWith
      (andThen (runLegs (fun _ _ => true) 0 (readLegs a7 reg)) (fun _ => andThen (i2cReadData n) fun data =>
        andThen i2cStop fun _ => ret (.bytes data)) s)) := by
  rw [exec, execI2cRead, i2cRequest_allowed hr (by rw [hf]; rfl), if_neg (by omega), readLegs,
    runLegs_cons_of_checked fun _ => rfl, runLegs_cons_of_checked fun _ => rfl, runLegs_cons_of_checked fun _ => rfl]
  simp only [Leg.address, expectAck_andThen, andThen_assoc, runLegs, andThen_ret]
  rfl

/-! ## The ends of the requests -/

/-- A transaction that starts and ends Idle changes only the transport's side of the state and the response. -/
theorem transacted_idle_respond {s : State} (hf : s.i2c.fsm = .idle) (bs : Bytes) (script : List Answer) (n : Nat)
    (r : Response) : (s.transacted bs .idle script n).respond r = { s with
      resp := r
      script := script
      calls := s.calls + n
      xp.wire := s.xp.wire ++ s.xp.cb ++ bs
      xp.cb := []
      xp.rxq := [] } := by
  simp only [State.transacted, State.respond, ← hf]

theorem sentBytes_cons (p : Params) (b : Byte) (bs : Bytes) :
    sentBytes p (b :: bs) = sentBytes p [b] ++ sentBytes p bs := by
  simp [sentBytes]

theorem legBytes_send (s : State) (bs : Bytes) : legBytes s (bs.map Leg.send) = sentBytes s.params bs := by
  simp [legBytes, sentBytes, Leg.send, List.flatMap_map]

/-- I2C.Write as far as its leg `k` (R201). -/
theorem legBytes_writeLegs_take (s : State) (a7 : Addr7) (reg : Byte) (data : Bytes) (k : Nat) :
    legBytes s ((writeLegs a7 reg data).take (k + 1)) =
      i2cStartSeq s ++ sentBytes s.params ((frame a7 .zero :: reg :: data).take (k + 1)) := by
  have hsend : (writeLegs a7 reg data).take (k + 1) = Leg.address a7 .zero :: ((reg :: data).take k).map Leg.send := by
    rw [writeLegs, List.take_succ_cons, ← List.map_cons, List.map_take]
  have haddress (legs : List Leg) : legBytes s (Leg.address a7 .zero :: legs) =
      i2cStartSeq s ++ sentBytes s.params [frame a7 .zero] ++ legBytes s legs := rfl
  rw [hsend, haddress, legBytes_send, List.take_succ_cons, sentBytes_cons _ _ (List.take ..), List.append_assoc]

theorem writeLegs_length (a7 : Addr7) (reg : Byte) (data : Bytes) :
    (writeLegs a7 reg data).length = 2 + data.length := by
  simp only [writeLegs, List.length_cons, List.length_map]
  omega

/-- Settles O29: every leg is delivered and then the STOP. -/
theorem i2cWriteSendsTheTransaction : Obligations.I2cWriteSendsTheTransaction := by
  intro s a7 reg data acks rest hp hs hr hf hlen hacks hscript
  have hlegs := writeLegs_length a7 reg data
  obtain ⟨hrun, haccounted⟩ := runLegs_acknowledged (checked := writeChecked) (k := 0) (legs := writeLegs a7 reg data)
    hp hs (List.cons_ne_nil _ _) (hlen.trans hlegs.symm)
    (fun j hj hc => hacks j hj (by simpa [writeChecked] using hc)) hscript
  have hbytes := legBytes_writeLegs_take s a7 reg data (1 + data.length)
  rw [List.take_of_length_le (by rw [hlegs]; omega), List.take_of_length_le (by simp [Nat.add_comm])] at hbytes
  rw [exec_i2cWrite_idle hr hf, andThen_of_done hrun, andThen_of_done (i2cStop_transacted hp haccounted), hlegs, hbytes]
  simp [transacted_idle_respond hf]

/-- Settles O30: the legs as far as the missing acknowledgment, and the STOP. -/
theorem i2cWriteStopsAtAMissingAck : Obligations.I2cWriteStopsAtAMissingAck := by
  intro s a7 reg r data acks rest hp hs hr hf hlen hacks hack hchecked hscript
  have hrun := runLegs_missing (checked := writeChecked) (k := 0) (legs := writeLegs a7 reg data) hp hs
    (hlen.trans_eq (writeLegs_length a7 reg data).symm) hacks hack (by simpa [writeChecked] using hchecked) hscript
  rw [exec_i2cWrite_idle hr hf, andThen_of_raised hrun, legBytes_writeLegs_take]
  simp [transacted_idle_respond hf]

/-- Settles O32: the header's legs as far as the missing acknowledgment, and the STOP. -/
theorem i2cReadStopsAtAMissingAck : Obligations.I2cReadStopsAtAMissingAck := by
  intro s a7 reg r n acks rest hp hs hr hf hn hlen hacks hack hscript
  have hrun := runLegs_missing (checked := fun _ _ => true) (k := 0) (legs := readLegs a7 reg) hp hs hlen hacks hack rfl
    hscript
  have hbytes (k : Nat) : legBytes s ((readLegs a7 reg).take k) = ((readHeader s a7 reg).take k).flatten := by
    rw [legBytes, List.flatMap, List.map_take]; rfl
  rw [exec_i2cRead_idle hr hf a7 reg hn, andThen_of_raised hrun, hbytes]
  simp [transacted_idle_respond hf]

/-! ## The bytes of a read -/

/-- The byte-ins of I2C.Read, every one answered (R202). -/
theorem i2cReadData_answered {data : Bytes} {s : State} {rest : List Answer} (hp : s.params.opc.toList.Nodup)
    (hs : s.accounted) (hne : data ≠ []) (hscript : s.script = data.flatMap byteAnswers ++ rest) :
    i2cReadData data.length s =
      .done data (s.transacted (receivedBytes s.params data.length) .byteIn rest (2 * data.length)) := by
  induction data generalizing s with
  | nil => exact absurd rfl hne
  | cons b data ih =>
    rw [List.flatMap_cons, List.append_assoc] at hscript
    have hbyte := i2cReceiveByte_answered hp hs (decide (0 < data.length)) hscript
    have hbytes : receivedBytes s.params (data.length + 1) =
        (i2cInSeq s.params (decide (0 < data.length)) ++ immediateBytes s.params) ++
          receivedBytes s.params data.length :=
      range_flatMap_last (fun a => i2cInSeq s.params a ++ immediateBytes s.params) data.length
    rw [List.length_cons, i2cReadData, andThen_of_done hbyte, hbytes]
    cases data with
    | nil => simp [i2cReadData, receivedBytes]
    | cons b' data =>
      have hdata := ih (s := s.transacted _ .byteIn _ 2) hp ((sends_i2cReceiveByte _).accounted hbyte hp hs)
        (by simp) rfl
      rw [andThen_of_done hdata, State.transacted_transacted, ret_apply, State.transacted_params, Nat.mul_succ 2,
        Nat.add_comm 2]

/-- Settles O31: the header's legs, the byte-ins, and the STOP. -/
theorem i2cReadReturnsTheBytes : Obligations.I2cReadReturnsTheBytes := by
  intro s a7 reg h0 h1 h2 data rest hr hf
  refine ⟨?_, fun hp hs hn hack0 hack1 hack2 hscript => ?_⟩
  · rw [exec, execI2cRead, i2cRequest_allowed hr (by rw [hf]; rfl)]; rfl
  rw [List.flatMap_append, List.append_assoc] at hscript
  have hacks : ∀ x ∈ [h0, h1, h2], isAck x = true := by simp [hack0, hack1, hack2]
  obtain ⟨hheader, hopened⟩ := runLegs_acknowledged (checked := fun _ _ => true) (k := 0) (legs := readLegs a7 reg)
    hp hs (List.cons_ne_nil _ _) (acks := [h0, h1, h2]) rfl
    (fun j hj _ => by rw [List.getD_eq_getElem _ _ hj]; exact hacks _ (List.getElem_mem hj)) hscript
  have hdata := i2cReadData_answered (s := s.transacted _ .byteOut _ _) hp hopened (List.ne_nil_of_length_pos hn) rfl
  have hreceived := (sends_i2cReadData data.length).accounted hdata hp hopened
  rw [State.transacted_transacted] at hdata hreceived
  have hbytes : legBytes s (readLegs a7 reg) = i2cStartSeq s ++ sentBytes s.params [frame a7 .zero, reg] ++
      i2cStartSeq s ++ sentBytes s.params [frame a7 .one] := by
    simp [legBytes, readLegs, Leg.address, Leg.send, sentBytes]
  rw [exec_i2cRead_idle hr hf a7 reg hn, andThen_of_done hheader, andThen_of_done hdata,
    andThen_of_done (i2cStop_transacted hp hreceived), hbytes]
  simp [transacted_idle_respond hf, readLegs]
  omega

/-! ## Scans -/

/-- The addresses from `a` on whose probe is acknowledged (R199). -/
def acknowledging (a : Nat) (acks : Bytes) : List Addr7 :=
  ((List.range acks.length).filter fun k => isAck (acks.getD k 0)).map fun k => BitVec.ofNat 7 (k + a)

theorem acknowledging_cons (a : Nat) (r : Byte) (acks : Bytes) : acknowledging a (r :: acks) =
    if isAck r then BitVec.ofNat 7 a :: acknowledging (a + 1) acks else acknowledging (a + 1) acks := by
  have hrest : (((List.range acks.length).map Nat.succ).filter fun k => isAck ((r :: acks).getD k 0)).map
      (fun k => BitVec.ofNat 7 (k + a)) = acknowledging (a + 1) acks := by
    simp [acknowledging, List.filter_map, Function.comp_def, Nat.add_assoc, Nat.add_comm 1]
  rw [acknowledging, List.length_cons, List.range_succ_eq_map, List.filter_cons, List.getD_cons_zero]
  split
  · rw [List.map_cons, hrest, Nat.zero_add]
  · exact hrest

/-- The answers to a probe whose response byte is `r` (R199). -/
def probeAnswers (r : Byte) : List Answer := byteAnswers r ++ [plainAnswer]

theorem i2cProbe_answered {s : State} {rest : List Answer} {r : Byte} (hp : s.params.opc.toList.Nodup)
    (hs : s.accounted) (a : Nat) (hscript : s.script = probeAnswers r ++ rest) :
    i2cProbe (BitVec.ofNat 7 a) s = .done (isAck r) (s.transacted (probeBytes s a) .idle rest 3) := by
  rw [probeAnswers, List.append_assoc, List.singleton_append] at hscript
  have hleg := (Leg.address (BitVec.ofNat 7 a) .zero).answered hp hs hscript
  have hstop := i2cStop_transacted hp (Leg.accounted (l := Leg.address (BitVec.ofNat 7 a) .zero) hp hs hscript)
  have hbytes : (Leg.address (BitVec.ofNat 7 a) .zero).bytes s ++ i2cStopSeq s = probeBytes s a := by
    simp [Leg.address, sentBytes, probeBytes, frame_write]
  have hprobe : i2cProbe (BitVec.ofNat 7 a) = andThen (Leg.address (BitVec.ofNat 7 a) .zero).step fun ack =>
      andThen i2cStop fun _ => ret ack := by
    rw [i2cProbe, Leg.address, andThen_assoc]
  rw [hprobe, andThen_of_done hleg, andThen_of_done hstop, hbytes, ret_apply]

/-- The probes of a scan, every one answered (R199). -/
theorem i2cScanFrom_answered {a : Nat} {acks : Bytes} {s : State} {rest : List Answer}
    (hp : s.params.opc.toList.Nodup) (hs : s.accounted) (hne : acks ≠ [])
    (hscript : s.script = acks.flatMap probeAnswers ++ rest) :
    i2cScanFrom a acks.length s = .done (acknowledging a acks)
      (s.transacted ((List.range' a acks.length).flatMap (probeBytes s)) .idle rest (3 * acks.length)) := by
  induction acks generalizing a s with
  | nil => exact absurd rfl hne
  | cons r acks ih =>
    rw [List.flatMap_cons, List.append_assoc] at hscript
    have hprobe := i2cProbe_answered hp hs a hscript
    rw [List.length_cons, i2cScanFrom, andThen_of_done hprobe, List.range'_succ, List.flatMap_cons, acknowledging_cons]
    cases acks with
    | nil => simp [i2cScanFrom, acknowledging]
    | cons r' acks =>
      have hrest := ih (a := a + 1) (s := s.transacted _ .idle _ 3) hp ((sends_i2cProbe a).accounted hprobe hp hs)
        (by simp) rfl
      have hsteady : probeBytes (s.transacted (probeBytes s a) .idle ((r' :: acks).flatMap probeAnswers ++ rest) 3) =
          probeBytes s := rfl
      rw [andThen_of_done hrest, State.transacted_transacted, hsteady, ret_apply, Nat.mul_succ 3, Nat.add_comm 3]

/-- Settles O27: a scan is the 126 probes from address 1 on. -/
theorem i2cScanReportsTheAcknowledging : Obligations.I2cScanReportsTheAcknowledging := by
  intro s acks rest hp hs hr hf hlen hscript
  have hne : acks ≠ [] := List.ne_nil_of_length_pos (by omega)
  have hrun := i2cScanFrom_answered (a := 1) hp hs hne hscript
  rw [hlen, ← scanBytes_eq, acknowledging, hlen] at hrun
  rw [exec, execI2cScan, i2cRequest_allowed hr (by rw [hf]; rfl), andThen_of_done hrun]
  simp [transacted_idle_respond hf]

end Sys2Proof.Machine
end

section
/-! PROOFS. What a piece can raise (R300, R302 to R304): an I2C piece leaves the unit Idle, with nothing to flush unless
the transport failed (R205); no other unit raises a ProtocolNack (R303). -/

namespace Sys2Proof.Machine

/-! ## Raised errors -/

/-- Every error the piece raises comes with a state of `E`. -/
def Raises {α : Type} (E : Error → State → Prop) (m : Req α) : Prop := ∀ s e t, m s = .raised e t → E e t

namespace Raises
variable {α β : Type} {E : Error → State → Prop} {m : Req α}

theorem ret (v : α) : Raises E (Machine.ret v) := by
  intro s e t h
  rw [ret_apply] at h
  cases h

theorem raise {e : Error} (he : ∀ t, E e t) : Raises E (Machine.raise e : Req α) := by
  intro s e' t h
  rw [raise_apply] at h
  cases h
  exact he s

theorem withState {k : State → Req α} (hk : ∀ s, Raises E (k s)) : Raises E (Machine.withState k) :=
  fun s => hk s s

theorem andThen {k : α → Req β} (hm : Raises E m) (hk : ∀ v, Raises E (k v)) : Raises E (Machine.andThen m k) := by
  intro s e t h
  cases hr : m s with
  | done v u => rw [andThen_of_done hr] at h; exact hk v u e t h
  | raised e' u => rw [andThen_of_raised hr] at h; cases h; exact hm s e t hr

theorem of_queues {f : State → Bytes} (h : Queues m f) : Raises E m := by
  intro s e t hr
  obtain ⟨v, u, hrun, -⟩ := h s
  rw [hrun] at hr
  cases hr

/-- A piece that only sends raises nothing but TransportFailure. -/
theorem of_sends {n : Nat} {f : State → Bytes} (h : Sends n m f) (hE : ∀ t, E .transportFailure t) : Raises E m := by
  intro s e t hr
  have hends := h s
  rw [Ends, hr] at hends
  obtain rfl : e = .transportFailure := Decidable.byContradiction fun hne => hends hne
  exact hE t

/-- A response with an error comes from the piece that raised it. -/
theorem of_respondWith {m : Req Result} (hm : Raises E m) (hE : ∀ e t r, E e t → E e (t.respond r)) {s : State}
    {e : Error} (hresp : (respondWith (m s)).resp = .error e) : E e (respondWith (m s)) := by
  cases hr : m s with
  | done v t => rw [hr] at hresp; cases hresp
  | raised e' t => rw [hr] at hresp; cases hresp; exact hE e t _ (hm s e t hr)

end Raises

/-! ## I2C -/

/-- How a started I2C transaction ends with an error: Idle, and with an empty buffer unless the transport failed (R200,
R205). -/
def Aborted (e : Error) (t : State) : Prop := t.i2c.fsm = .idle ∧ (e ≠ .transportFailure → t.xp.cb = [])

theorem exchange_aborts (seq : State → Bytes) (f : Fsm) {n : Nat} (hn : 1 ≤ n) : Raises Aborted (exchange seq f n) := by
  intro s e t h
  rcases exchange_cases (seq := seq) (f := f) hn s with ⟨-, -, hrun⟩ | ⟨-, -, hrun⟩ | ⟨-, hrun⟩ <;>
    rw [hrun] at h <;> cases h
  · exact ⟨rfl, fun hne => absurd rfl hne⟩
  · exact ⟨rfl, fun hne => absurd rfl hne⟩

theorem i2cStart_aborts : Raises Aborted i2cStart := .of_queues queues_i2cStart

theorem i2cSendByte_aborts (b : Byte) : Raises Aborted (i2cSendByte b) :=
  (exchange_aborts _ _ (le_refl 1)).andThen fun _ => .ret _

theorem i2cReceiveByte_aborts (a : Bool) : Raises Aborted (i2cReceiveByte a) :=
  (exchange_aborts _ _ (le_refl 1)).andThen fun _ => .ret _

theorem i2cStop_aborts : Raises Aborted i2cStop := by
  intro s e t h
  rcases i2cStop_cases s with ⟨-, hrun⟩ | ⟨-, hrun⟩ <;> rw [hrun] at h <;> cases h
  exact ⟨rfl, fun hne => absurd rfl hne⟩

/-- A ProtocolNack is raised after the STOP (R200). -/
theorem nackAbort_aborts {α : Type} (k : Nat) : Raises Aborted (nackAbort k : Req α) := by
  intro s e t h
  rw [nackAbort] at h
  rcases i2cStop_cases s with ⟨-, hrun⟩ | ⟨-, hrun⟩
  · rw [andThen_of_done hrun] at h; cases h; exact ⟨rfl, fun _ => rfl⟩
  · rw [andThen_of_raised hrun] at h; cases h; exact ⟨rfl, fun hne => absurd rfl hne⟩

theorem expectAck_aborts (k : Nat) {m : Req Bool} (hm : Raises Aborted m) : Raises Aborted (expectAck k m) := by
  refine hm.andThen fun ack => ?_
  cases ack with
  | true => exact .ret ()
  | false => exact nackAbort_aborts k

theorem i2cWriteData_aborts (k : Nat) (data : Bytes) : Raises Aborted (i2cWriteData k data) := by
  induction data generalizing k with
  | nil => exact .ret ()
  | cons b data ih =>
    refine (i2cSendByte_aborts b).andThen fun ack => .withState fun s => ?_
    split
    · exact nackAbort_aborts k
    · exact ih (k + 1)

theorem i2cReadData_aborts (n : Nat) : Raises Aborted (i2cReadData n) := by
  induction n with
  | zero => exact .ret []
  | succ n ih => exact (i2cReceiveByte_aborts _).andThen fun _ => ih.andThen fun _ => .ret _

theorem i2cProbe_aborts (a : Addr7) : Raises Aborted (i2cProbe a) :=
  i2cStart_aborts.andThen fun _ => (i2cSendByte_aborts _).andThen fun _ => i2cStop_aborts.andThen fun _ => .ret _

theorem i2cScanFrom_aborts (a count : Nat) : Raises Aborted (i2cScanFrom a count) := by
  induction count generalizing a with
  | zero => exact .ret []
  | succ n ih => exact (i2cProbe_aborts _).andThen fun _ => (ih (a + 1)).andThen fun _ => .ret _

/-- The acknowledgments of a batch are searched once its STOP is delivered (R203, R204). -/
theorem fastBatch_aborts (seq : State → Bytes) {n : Nat} (hn : 1 ≤ n) {k : Bytes → Req Result}
    (hk : ∀ r t, (∃ v, k r t = .done v t) ∨ ∃ j, k r t = .raised (.protocolNack j) t) :
    Raises Aborted (andThen (fastBatch seq n) k) := by
  intro s e t h
  rw [fastBatch_eq, andThen_assoc] at h
  rcases exchange_cases (seq := seq) (f := .stopped) hn s with ⟨-, -, hrun⟩ | ⟨-, -, hrun⟩ | ⟨-, hrun⟩
  · rw [andThen_of_done hrun, andThen_assoc, goTo, andThen_update, andThen_ret] at h
    rcases hk _ _ with ⟨v, hv⟩ | ⟨j, hj⟩
    · rw [hv] at h; cases h
    · rw [hj] at h; cases h; exact ⟨rfl, fun _ => rfl⟩
  all_goals
    rw [andThen_of_raised hrun] at h; cases h
    exact ⟨rfl, fun hne => absurd rfl hne⟩

theorem Raises.of_i2cRequest {allowed : Fsm → Bool} {m : Req Result} (hm : Raises Aborted m) {s t : State} {e : Error}
    (hx : i2cRequest allowed m s = .next t) (hresp : t.resp = .error e) : Aborted e t := by
  obtain ⟨-, -, rfl⟩ := i2cRequest_next hx
  exact hm.of_respondWith (fun _ _ _ h => h) hresp

/-- An I2C request that ends with an error but InvalidArgument leaves the unit Idle; its buffer is delivered unless the
transport failed (R200, R205, R308). -/
theorem exec_i2c_aborted {i : Instr} {s t : State} {e : Error} (hfam : familyOf i.op = .i2c) (hx : exec i s = .next t)
    (hresp : t.resp = .error e) (he : e ≠ .invalidArgument) : Aborted e t := by
  unfold exec at hx
  cases i with
  | i2cInit div t1 t2 t3 t4 t5 =>
    rcases exec_i2cInit_cases hx with rfl | ⟨-, rfl | rfl⟩ <;> cases hresp
    · exact absurd rfl he
    · exact ⟨rfl, fun hne => absurd rfl hne⟩
  | i2cSetTiming t1 t2 t3 t4 t5 =>
    rcases exec_i2cSetTiming_cases hx with rfl | ⟨-, rfl⟩ <;> cases hresp
    exact absurd rfl he
  | i2cStart => exact (i2cStart_aborts.andThen fun _ => .ret _).of_i2cRequest hx hresp
  | i2cStop => exact (i2cStop_aborts.andThen fun _ => .ret _).of_i2cRequest hx hresp
  | i2cSendByte b => exact ((i2cSendByte_aborts b).andThen fun _ => .ret _).of_i2cRequest hx hresp
  | i2cSendAddress a7 rw => exact ((i2cSendByte_aborts _).andThen fun _ => .ret _).of_i2cRequest hx hresp
  | i2cReceiveByte a => exact ((i2cReceiveByte_aborts a).andThen fun _ => .ret _).of_i2cRequest hx hresp
  | i2cScan => exact ((i2cScanFrom_aborts 1 126).andThen fun _ => .ret _).of_i2cRequest hx hresp
  | i2cWrite a7 reg data =>
    refine Raises.of_i2cRequest ?_ hx hresp
    exact i2cStart_aborts.andThen fun _ => (expectAck_aborts 0 (i2cSendByte_aborts _)).andThen fun _ =>
      (expectAck_aborts 1 (i2cSendByte_aborts reg)).andThen fun _ => (i2cWriteData_aborts 2 data).andThen fun _ =>
      i2cStop_aborts.andThen fun _ => .ret _
  | i2cRead a7 reg n =>
    obtain ⟨-, -, ht⟩ := i2cRequest_next hx
    split at ht
    · subst ht; cases hresp; exact absurd rfl he
    · subst ht
      refine Raises.of_respondWith ?_ (fun _ _ _ h => h) hresp
      exact i2cStart_aborts.andThen fun _ => (expectAck_aborts 0 (i2cSendByte_aborts _)).andThen fun _ =>
        (expectAck_aborts 1 (i2cSendByte_aborts reg)).andThen fun _ => i2cStart_aborts.andThen fun _ =>
        (expectAck_aborts 2 (i2cSendByte_aborts _)).andThen fun _ => (i2cReadData_aborts n).andThen fun _ =>
        i2cStop_aborts.andThen fun _ => .ret _
  | i2cFastWrite a7 reg data =>
    exact (fastBatch_aborts _ (by omega) fun _ _ => raiseNack_ends _ _ _).of_i2cRequest hx hresp
  | i2cFastRead a7 reg n =>
    obtain ⟨-, -, ht⟩ := i2cRequest_next hx
    split at ht
    · subst ht; cases hresp; exact absurd rfl he
    · subst ht
      exact (fastBatch_aborts _ (by omega) fun _ _ => raiseNack_ends _ _ _).of_respondWith (fun _ _ _ h => h) hresp
  | _ => cases hfam

/-- Settles O36: a TransportFailure is one of the errors that leave the unit Idle. -/
theorem i2cTransportFailureLeavesIdle : Obligations.I2cTransportFailureLeavesIdle := by
  intro i s t hfam hx hresp
  exact (exec_i2c_aborted hfam hx hresp nofun).1

end Sys2Proof.Machine
end

section
/-! PROOFS. A ProtocolNack (R303, R310) comes from the four transaction requests only; what they have delivered by then
is what `enqueuedBy` gives for that response. -/

namespace Sys2Proof.Machine

/-! ## What raises no ProtocolNack -/

/-- Any error but a ProtocolNack. -/
def NotNack (e : Error) (_ : State) : Prop := ∀ k, e ≠ .protocolNack k

theorem notNack_transportFailure (t : State) : NotNack .transportFailure t := nofun

theorem notNack_invalidArgument (t : State) : NotNack .invalidArgument t := nofun

theorem Raises.resp_ne_nack {m : Req Result} (hm : Raises NotNack m) (s : State) (k : Nat) :
    (respondWith (m s)).resp ≠ .error (.protocolNack k) :=
  fun hresp => hm.of_respondWith (fun _ _ _ h => h) hresp k rfl

theorem Sends.raises_notNack {m : Req Result} {n : Nat} {f : State → Bytes} (h : Sends n m f) : Raises NotNack m :=
  .of_sends h notNack_transportFailure

theorem raise_notNack : Raises NotNack (raise .invalidArgument : Req Result) := .raise notNack_invalidArgument

/-- Every function form answers its bytes, or rejects its operands (R120, R121). -/
theorem exec_function_command {i : Instr} (hfam : familyOf i.op = .function) (s : State) :
    ∃ c bs, exec i s = answerCommand c s ∧ GivesOrRejects c bs := by
  cases i with
  | setClockDivisor | clkDiv5Disable | clkDiv5Enable | threePhaseEnable | threePhaseDisable | adaptiveEnable
  | adaptiveDisable | loopbackConnect | loopbackDisconnect | sendImmediate | waitOnHigh | waitOnLow | readDataBitsLow
  | readDataBitsHigh | setDataBitsLow | setDataBitsHigh => exact ⟨_, _, rfl, .inl rfl⟩
  | bytesOutPlusMsb payload off len | bytesOutMinusMsb payload off len | bytesOutPlusLsb payload off len
  | bytesOutMinusLsb payload off len | bytesInPlusOutMinusMsb payload off len | bytesInMinusOutPlusMsb payload off len
  | bytesInPlusOutMinusLsb payload off len | bytesInMinusOutPlusLsb payload off len =>
    exact ⟨_, _, rfl, formatY_gives s.params _ payload off len⟩
  | bytesInPlusMsb n | bytesInMinusMsb n | bytesInPlusLsb n | bytesInMinusLsb n =>
    exact ⟨_, _, rfl, formatYI_gives s.params _ n⟩
  | bitsInPlusMsb k | bitsInMinusMsb k | bitsInPlusLsb k | bitsInMinusLsb k =>
    exact ⟨_, _, rfl, formatBI_gives s.params _ k⟩
  | bitsOutPlusMsb data k | bitsOutMinusMsb data k | bitsOutPlusLsb data k | bitsOutMinusLsb data k
  | bitsInPlusOutMinusMsb data k | bitsInMinusOutPlusMsb data k | bitsInPlusOutMinusLsb data k
  | bitsInMinusOutPlusLsb data k => exact ⟨_, _, rfl, formatB_gives s.params _ data k⟩
  | _ => cases hfam

theorem parseFrom_error {fuel : Nat} {buf : Bytes} {i : Nat} {e : Error} (h : parseFrom fuel buf i = .error e) :
    e = .invalidArgument := by
  induction fuel generalizing i with
  | zero => cases h
  | succ fuel ih =>
    rw [parseFrom] at h
    split at h
    · split at h
      · cases h; rfl
      · split at h
        · cases h; rfl
        · split at h
          · cases h; exact ih ‹_›
          · cases h
    · cases h

section
variable {i : Instr} {s t : State} {k : Nat}

theorem exec_spi_resp_ne_nack (hfam : familyOf i.op = .spi) (hx : exec i s = .next t) :
    t.resp ≠ .error (.protocolNack k) := by
  unfold exec at hx
  cases i with
  | spiInit => rcases exec_spiInit_cases hx with rfl | ⟨-, rfl | rfl⟩ <;> nofun
  | spiSetCsLevel level =>
    obtain ⟨-, rfl⟩ := spiRequest_next hx
    exact Raises.resp_ne_nack ((Raises.of_queues (queues_csSet level)).andThen fun _ => .ret _) s k
  | spiEnable =>
    obtain ⟨-, rfl⟩ := spiRequest_next hx
    exact Raises.resp_ne_nack ((Raises.of_queues queues_spiEnable).andThen fun _ => .ret _) s k
  | spiDisable =>
    obtain ⟨-, rfl⟩ := spiRequest_next hx
    exact Raises.resp_ne_nack ((Raises.of_queues queues_spiDisable).andThen fun _ => .ret _) s k
  | spiWrite payload =>
    obtain ⟨-, rfl⟩ := spiRequest_next hx
    refine Raises.resp_ne_nack ?_ s k
    split
    · exact (sends_spiWrite ‹_›).thenRet.raises_notNack
    · exact raise_notNack
  | spiTransfer payload =>
    obtain ⟨-, rfl⟩ := spiRequest_next hx
    refine Raises.resp_ne_nack ?_ s k
    split
    · exact (sends_spiTransfer ‹_›).thenReadRet.raises_notNack
    · exact raise_notNack
  | _ => cases hfam

theorem exec_dc_resp_ne_nack (hfam : familyOf i.op = .dc) (hx : exec i s = .next t) :
    t.resp ≠ .error (.protocolNack k) := by
  unfold exec at hx
  cases i with
  | dcInit => rcases exec_dcInit_cases hx with rfl | ⟨-, -, rfl | rfl⟩ <;> nofun
  | dcSetDcLevel isCommand =>
    obtain ⟨-, -, rfl⟩ := dcRequest_next hx
    exact Raises.resp_ne_nack ((Raises.of_queues (queues_dcSet _ _)).andThen fun _ => .ret _) s k
  | dcWrite payload isCommand =>
    obtain ⟨-, -, rfl⟩ := dcRequest_next hx
    refine Raises.resp_ne_nack ?_ s k
    split
    · exact raise_notNack
    · exact (sends_dcWrite (by omega) isCommand).thenRet.raises_notNack
  | dcTransfer payload isCommand =>
    obtain ⟨-, -, rfl⟩ := dcRequest_next hx
    refine Raises.resp_ne_nack ?_ s k
    split
    · exact raise_notNack
    · exact (sends_dcTransfer (by omega) isCommand).thenReadRet.raises_notNack
  | dcCommandStream buf =>
    obtain ⟨-, -, rfl⟩ := dcRequest_next hx
    refine Raises.resp_ne_nack ?_ s k
    cases hparse : parseStream buf with
    | error e =>
      obtain rfl := parseFrom_error hparse
      exact raise_notNack
    | ok entries => exact (sends_dcCommandStream hparse).thenRet.raises_notNack
  | dcResetDance =>
    obtain ⟨-, -, rfl⟩ := dcRequest_next hx
    have hdance := (queues_dance.thenFlush fun _ hp => responseTotal_danceBytes hp).thenRet (v := fun _ => Result.unit)
    simp only [andThen_assoc] at hdance
    exact hdance.raises_notNack.resp_ne_nack s k
  | dcResetTimed ms1 ms2 =>
    obtain ⟨-, -, rfl⟩ := dcRequest_next hx
    have htimed := sends_resetTimed ms1 ms2
    simp only [resetPulse, andThen_assoc] at htimed
    exact htimed.raises_notNack.resp_ne_nack s k
  | _ => cases hfam

theorem exec_xp_resp_ne_nack (hfam : familyOf i.op = .xp) (hx : exec i s = .next t) :
    t.resp ≠ .error (.protocolNack k) := by
  cases i with
  | xpExecute =>
    rw [exec_xpExecute] at hx
    rcases executeBuffer_cases s with ⟨-, hflush⟩ | ⟨-, hflush⟩
    · rw [andThen_of_done hflush] at hx; cases hx; nofun
    · rw [andThen_of_raised hflush] at hx; cases hx; nofun
  | xpRead n =>
    rw [exec_xpRead] at hx
    rcases read_cases n s with ⟨-, hread⟩ | ⟨-, -, hread⟩ | ⟨-, -, hread⟩
    · rw [andThen_of_done hread] at hx; cases hx; nofun
    · rw [andThen_of_done hread] at hx; cases hx; nofun
    · rw [andThen_of_raised hread] at hx; cases hx; nofun
  | xpEnqueue | xpClearInput | xpClearOutput | xpSetClockDivisor | xpSetLoopback => cases hx; nofun
  | _ => cases hfam

theorem exec_i2c_nack_op (hfam : familyOf i.op = .i2c) (hx : exec i s = .next t)
    (hresp : t.resp = .error (.protocolNack k)) :
    i.op ∈ [Op.i2cWrite, Op.i2cRead, Op.i2cFastWrite, Op.i2cFastRead] := by
  have hsends {m : Req Result} {f : State → Bytes} {allowed : Fsm → Bool} (h : Sends 0 m f)
      (hx : i2cRequest allowed m s = .next t) : False := by
    obtain ⟨-, -, rfl⟩ := i2cRequest_next hx
    exact h.raises_notNack.resp_ne_nack s k hresp
  unfold exec at hx
  cases i with
  | i2cInit => rcases exec_i2cInit_cases hx with rfl | ⟨-, rfl | rfl⟩ <;> cases hresp
  | i2cSetTiming => rcases exec_i2cSetTiming_cases hx with rfl | ⟨-, rfl⟩ <;> cases hresp
  | i2cStart => exact (hsends sends_i2cStart.thenRet hx).elim
  | i2cStop => exact (hsends sends_i2cStop.thenRet hx).elim
  | i2cSendByte b => exact (hsends (sends_i2cSendByte b).thenRet hx).elim
  | i2cSendAddress a7 rw => exact (hsends (sends_i2cSendByte (frame a7 rw)).thenRet hx).elim
  | i2cReceiveByte a => exact (hsends (sends_i2cReceiveByte a).thenRet hx).elim
  | i2cScan => exact (hsends (sends_i2cScanFrom 1 126).thenRet hx).elim
  | i2cWrite | i2cRead | i2cFastWrite | i2cFastRead => simp [Instr.op]
  | _ => cases hfam

theorem exec_nack_familyOf (hx : exec i s = .next t) (hresp : t.resp = .error (.protocolNack k)) :
    familyOf i.op = .i2c := by
  cases hfam : familyOf i.op with
  | function =>
    obtain ⟨c, bs, hexec, rfl | rfl⟩ := exec_function_command hfam s <;> rw [hexec] at hx <;> cases hx <;> cases hresp
  | enc =>
    obtain ⟨c, hexec, rfl | rfl⟩ := exec_enc_command hfam s <;> rw [hexec] at hx <;> cases hx <;> cases hresp
  | i2c => rfl
  | spi => exact absurd hresp (exec_spi_resp_ne_nack hfam hx)
  | dc => exact absurd hresp (exec_dc_resp_ne_nack hfam hx)
  | xp => exact absurd hresp (exec_xp_resp_ne_nack hfam hx)

end

/-! ## What is delivered by then -/

/-- The bytes enqueued up to a ProtocolNack end with the STOP sequence, on the fast path with the batch's SendImmediate
after it (R200, R203, R204). -/
theorem enqueuedBy_nack {i : Instr} (h : i.op ∈ [Op.i2cWrite, Op.i2cRead, Op.i2cFastWrite, Op.i2cFastRead]) (s : State)
    (k : Nat) : ∃ sent, enqueuedBy i s (.error (.protocolNack k)) = sent ++ i2cStopSeq s ++
      if i.op ∈ [Op.i2cFastWrite, Op.i2cFastRead] then immediateBytes s.params else [] := by
  cases i with
  | i2cWrite | i2cRead => exact ⟨_, (List.append_nil _).symm⟩
  | i2cFastWrite | i2cFastRead => exact ⟨_, rfl⟩
  | _ => simp [Instr.op] at h

/-- Settles O37: the error is an I2C request's, raised after its STOP, and everything it enqueued is delivered. -/
theorem protocolNackComesAfterTheStop : Obligations.ProtocolNackComesAfterTheStop := by
  intro i s t k hx hresp
  have hfam := exec_nack_familyOf hx hresp
  have hop := exec_i2c_nack_op hfam hx hresp
  obtain ⟨hidle, hcb⟩ := exec_i2c_aborted hfam hx hresp nofun
  have hhistory := (exec_i2c_carried hfam hx (by rw [hresp]; nofun)).history
  obtain ⟨sent, hsent⟩ := enqueuedBy_nack hop s k
  refine ⟨hop, hidle, hcb nofun, sent, ?_⟩
  rw [hresp, enqueuedOn, if_neg nofun, hsent, State.history, hcb nofun, List.append_nil] at hhistory
  simpa [State.history] using hhistory

end Sys2Proof.Machine
end

section
/-! PROOFS. What a scan may report whatever the environment answers (R199), and I2C.Write of no data as its four
primitive requests (R194 to R197, R201). -/

namespace Sys2Proof.Machine

/-! ## Scans -/

/-- The addresses of `count` probes from `a` on (R199). -/
def probed (a count : Nat) : List Addr7 := (List.range' a count).map (BitVec.ofNat 7)

theorem ends_i2cStop (s : State) : Ends i2cStop s (fun _ t => t.i2c.fsm = .idle) NoError := by
  rcases i2cStop_cases s with ⟨-, hrun⟩ | ⟨-, hrun⟩
  · exact .of_done hrun rfl
  · exact .of_raised hrun fun hne => absurd rfl hne

theorem ends_i2cProbe (a : Nat) (s : State) :
    Ends (i2cProbe (BitVec.ofNat 7 a)) s (fun _ t => t.i2c.fsm = .idle) NoError := by
  refine (sends_i2cStart s).andThen fun _ t _ => (sends_i2cSendByte _ t).andThen fun ack u _ => ?_
  exact (ends_i2cStop u).andThen fun _ v hidle => .of_done rfl hidle

/-- A scan reports some of the addresses it probes, in their order. -/
theorem ends_i2cScanFrom (a count : Nat) {s : State} (hs : s.i2c.fsm = .idle) :
    Ends (i2cScanFrom a count) s (fun found t => found.Sublist (probed a count) ∧ t.i2c.fsm = .idle) NoError := by
  induction count generalizing a s with
  | zero => exact .of_done rfl ⟨List.Sublist.refl [], hs⟩
  | succ n ih =>
    refine (ends_i2cProbe a s).andThen fun ack t ht => (ih (a + 1) ht).andThen fun found u ⟨hfound, hu⟩ => ?_
    refine .of_done rfl ⟨?_, hu⟩
    rw [probed, List.range'_succ, List.map_cons]
    cases ack with
    | true => exact hfound.cons_cons _
    | false => exact hfound.cons _

theorem probed_toNat {a count : Nat} (h : a + count ≤ 128) :
    (probed a count).map BitVec.toNat = List.range' a count := by
  rw [probed, List.map_map]
  refine (List.map_congr_left fun k hk => ?_).trans (List.map_id _)
  obtain ⟨-, hlt⟩ := List.mem_range'_1.mp hk
  exact Nat.mod_eq_of_lt (by omega)

/-- Settles O28: what is reported is in order among the addresses 1 to 126, and a failed scan is Idle too. -/
theorem i2cScanListIsAscendingAndInRange : Obligations.I2cScanListIsAscendingAndInRange := by
  intro s hr hf
  have hexec : exec .i2cScan s =
      .next (respondWith (andThen (i2cScanFrom 1 126) (fun found => ret (.addresses found)) s)) := by
    rw [exec, execI2cScan, i2cRequest_allowed hr (by rw [hf]; rfl)]
  have hscan := ends_i2cScanFrom 1 126 hf
  refine ⟨_, hexec, ?_⟩
  cases hrun : i2cScanFrom 1 126 s with
  | done found t =>
    rw [Ends, hrun] at hscan
    obtain ⟨hfound, hidle⟩ := hscan
    have hnat : (found.map BitVec.toNat).Sublist (List.range' 1 126) :=
      probed_toNat (a := 1) (count := 126) (by decide) ▸ hfound.map BitVec.toNat
    rw [andThen_of_done hrun]
    refine ⟨hidle, .inr ⟨found, rfl, fun a ha => ?_, ?_⟩⟩
    · have hmem := List.mem_range'_1.mp (hnat.subset (List.mem_map_of_mem ha))
      omega
    · exact List.pairwise_map.mp (List.Pairwise.sublist hnat List.pairwise_lt_range')
  | raised e t =>
    rw [Ends, hrun] at hscan
    obtain rfl : e = .transportFailure := Decidable.byContradiction hscan
    rw [andThen_of_raised hrun]
    exact ⟨(i2cScanFrom_aborts 1 126 s _ t hrun).1, .inl rfl⟩

/-! ## The response is an output -/

/-- The same end with another response in the port. -/
def Res.respond {α : Type} (x : Res α) (r : Response) : Res α :=
  match x with
  | .done v s => .done v (s.respond r)
  | .raised e s => .raised e (s.respond r)

/-- The piece does not read the response of the last request (R306). -/
def IgnoresResp {α : Type} (m : Req α) : Prop := ∀ s r, m (s.respond r) = (m s).respond r

namespace IgnoresResp
variable {α β : Type} {m : Req α}

theorem ret (v : α) : IgnoresResp (Machine.ret v) := fun _ _ => rfl

theorem update {f : State → State} (h : ∀ s r, f (s.respond r) = (f s).respond r) : IgnoresResp (Machine.update f) :=
  fun s r => congrArg (Res.done ()) (h s r)

theorem andThen {k : α → Req β} (hm : IgnoresResp m) (hk : ∀ v, IgnoresResp (k v)) :
    IgnoresResp (Machine.andThen m k) := by
  intro s r
  have h := hm s r
  unfold Machine.andThen
  cases hrun : m s with
  | done v t => rw [h, hrun]; exact hk v t r
  | raised e t => rw [h, hrun]; rfl

theorem onFailure {f : State → State} (hm : IgnoresResp m) (hf : ∀ s r, f (s.respond r) = (f s).respond r) :
    IgnoresResp (Machine.onFailure m f) := by
  intro s r
  have h := hm s r
  unfold Machine.onFailure
  cases hrun : m s with
  | done v t => rw [h, hrun]; rfl
  | raised e t => rw [h, hrun]; exact congrArg (Res.raised e) (hf t r)

theorem executeBuffer : IgnoresResp Machine.executeBuffer := by
  intro s r
  rcases executeBuffer_cases s with ⟨hok, hrun⟩ | ⟨hlost, hrun⟩
  · rw [hrun]; exact executeBuffer_of_ok (s := s.respond r) hok
  · rw [hrun]; exact executeBuffer_of_lost (s := s.respond r) hlost

theorem read (n : Nat) : IgnoresResp (Machine.read n) := by
  intro s r
  rcases read_cases n s with ⟨rfl, hrun⟩ | ⟨hn, hread, hrun⟩ | ⟨hn, hread, hrun⟩
  · rfl
  · rw [hrun]; exact read_of_ok (s := s.respond r) hn hread
  · rw [hrun]; exact read_of_lost (s := s.respond r) hn hread

theorem goTo (f : Fsm) : IgnoresResp (Machine.goTo f) := update fun _ _ => rfl

theorem flushExpect (n : Nat) : IgnoresResp (Machine.flushExpect n) := by
  refine (update fun s r => ?_).andThen fun _ => executeBuffer.andThen fun _ => read n
  rw [apply_ite (State.respond · r)]
  rfl

theorem i2cSendByte (b : Byte) : IgnoresResp (Machine.i2cSendByte b) :=
  (update fun _ _ => rfl).andThen fun _ => (goTo .byteOut).andThen fun _ =>
    ((flushExpect 1).onFailure fun _ _ => rfl).andThen fun _ => ret _

theorem i2cStop : IgnoresResp Machine.i2cStop :=
  (update fun _ _ => rfl).andThen fun _ => (goTo .stopped).andThen fun _ =>
    (executeBuffer.onFailure fun _ _ => rfl).andThen fun _ => goTo .idle

theorem done (hm : IgnoresResp m) {s t : State} {v : α} (h : m s = .done v t) (r : Response) :
    m (s.respond r) = .done v (t.respond r) := by
  rw [hm, h]; rfl

end IgnoresResp

/-! ## Pieces that ended with a value -/

theorem andThen_done_inv {α β : Type} {m : Req α} {k : α → Req β} {s u : State} {w : β}
    (h : andThen m k s = .done w u) : ∃ v t, m s = .done v t ∧ k v t = .done w u := by
  cases hr : m s with
  | done v t => exact ⟨v, t, rfl, andThen_of_done hr k ▸ h⟩
  | raised e t => rw [andThen_of_raised hr] at h; cases h

theorem respondWith_ok_inv {x : Res Result} {v : Result} (h : (respondWith x).resp = .ok v) :
    ∃ t, x = .done v t ∧ respondWith x = t.respond (.ok v) := by
  cases x with
  | done w t => cases h; exact ⟨t, rfl, rfl⟩
  | raised e t => cases h

/-- A tested byte-out after which the transaction goes on was acknowledged (R200). -/
theorem expectAck_done_inv {k : Nat} {m : Req Bool} {s t : State} (h : expectAck k m s = .done () t) :
    m s = .done true t := by
  obtain ⟨ack, u, hrun, hack⟩ := andThen_done_inv h
  cases ack with
  | true => cases hack; exact hrun
  | false =>
    obtain ⟨_, _, -, hraise⟩ := andThen_done_inv hack
    cases hraise

/-- After a byte-out the unit is in ByteOut and as ready as before (R196). -/
theorem i2cSendByte_done_inv {b : Byte} {s t : State} {ack : Bool} (h : i2cSendByte b s = .done ack t) :
    t.i2c.ready = s.i2c.ready ∧ t.i2c.fsm = .byteOut := by
  rw [i2cSendByte_eq] at h
  rcases exchange_cases (seq := fun s => i2cOutSeq s.params b) (f := .byteOut) (le_refl 1) s with
    ⟨-, -, hrun⟩ | ⟨-, -, hrun⟩ | ⟨-, hrun⟩
  · rw [andThen_of_done hrun] at h; cases h; exact ⟨rfl, rfl⟩
  all_goals rw [andThen_of_raised hrun] at h; cases h

/-! ## I2C.Write and its primitives -/

theorem exec_i2cStart_ready {s : State} (hr : s.i2c.ready = true) (hf : s.i2c.fsm = .idle) :
    exec .i2cStart s = .next (s.startQueued.respond (.ok .unit)) := by
  rw [exec, execI2cStart, i2cRequest_allowed hr (by rw [hf]; rfl), andThen_of_done (i2cStart_apply s)]
  rfl

section
variable {s t : State} {ack : Bool} (hr : s.i2c.ready = true) (r : Response)
include hr

theorem exec_i2cSendByte_done (hf : fsmOpen s.i2c.fsm = true) {b : Byte} (hrun : i2cSendByte b s = .done ack t) :
    exec (.i2cSendByte b) (s.respond r) = .next (t.respond (.ok (.bool ack))) := by
  rw [exec, execI2cSendByte, i2cRequest_allowed (s := s.respond r) hr hf,
    andThen_of_done ((IgnoresResp.i2cSendByte b).done hrun r)]
  rfl

theorem exec_i2cSendAddress_done (hf : s.i2c.fsm = .started) {a7 : Addr7} {intent : Bit}
    (hrun : i2cSendAddress a7 intent s = .done ack t) :
    exec (.i2cSendAddress a7 intent) (s.respond r) = .next (t.respond (.ok (.bool ack))) := by
  have hrun' : i2cSendAddress a7 intent (s.respond r) = .done ack (t.respond r) :=
    (IgnoresResp.i2cSendByte (frame a7 intent)).done hrun r
  rw [exec, execI2cSendAddress, i2cRequest_allowed (s := s.respond r) hr (by rw [State.respond_i2c, hf]; rfl),
    andThen_of_done hrun']
  rfl

theorem exec_i2cStop_done (hf : fsmOpen s.i2c.fsm = true) (hrun : i2cStop s = .done () t) :
    exec .i2cStop (s.respond r) = .next (t.respond (.ok .unit)) := by
  rw [exec, execI2cStop, i2cRequest_allowed (s := s.respond r) hr hf, andThen_of_done (IgnoresResp.i2cStop.done hrun r)]
  rfl

end

/-- Settles O35: the transaction is taken apart into its pieces, and each is a request of its own that ignores the
response of the one before. -/
theorem i2cWriteIsItsPrimitives : Obligations.I2cWriteIsItsPrimitives := by
  intro s t a7 reg hx hresp
  rw [exec] at hx
  obtain ⟨hr, hidle, rfl⟩ := i2cRequest_next hx
  obtain ⟨u, hrun, ht⟩ := respondWith_ok_inv hresp
  obtain ⟨_, s1, hstart, hrun⟩ := andThen_done_inv hrun
  obtain ⟨_, s2, haddress, hrun⟩ := andThen_done_inv hrun
  obtain ⟨_, s3, hreg, hrun⟩ := andThen_done_inv hrun
  obtain ⟨_, u, hstop, hend⟩ := andThen_done_inv (show andThen i2cStop (fun _ => ret Result.unit) s3 = _ from hrun)
  rw [i2cStart_apply] at hstart
  cases hstart
  cases hend
  have hsent := expectAck_done_inv haddress
  have hsent' := expectAck_done_inv hreg
  obtain ⟨hr2, hf2⟩ := i2cSendByte_done_inv hsent
  obtain ⟨hr3, hf3⟩ := i2cSendByte_done_inv hsent'
  have hready2 : s2.i2c.ready = true := hr2.trans hr
  rw [ht]
  refine ⟨s.startQueued.respond (.ok .unit), s2.respond (.ok (.bool true)), s3.respond (.ok (.bool true)), ?_, ?_, rfl,
    ?_, rfl, ?_⟩
  · exact exec_i2cStart_ready hr (by simpa using hidle)
  · exact exec_i2cSendAddress_done (s := s.startQueued) hr _ rfl hsent
  · exact exec_i2cSendByte_done hready2 _ (by rw [hf2]; rfl) hsent'
  · exact exec_i2cStop_done (hr3.trans hready2) _ (by rw [hf3]; rfl) hstop

end Sys2Proof.Machine
end

section
/-! PROOFS. When a request is refused (R184, R207, R248, R280, R297, R333): the check each family's requests
start with, and which requests have none. -/

namespace Sys2Proof.Machine

/-- The request answers a next state where `legal` holds and is refused everywhere else. -/
def Decides (legal : Prop) (o : Out) : Prop := (legal → ∃ t, o = .next t) ∧ (¬ legal → ∃ r, o = .refused r)

theorem Decides.of_iff {p q : Prop} {o : Out} (h : Decides p o) (hpq : q ↔ p) : Decides q o := by
  rw [Decides, hpq]; exact h

theorem decides_i2cRequest (allowed : Fsm → Bool) (m : Req Result) (s : State) :
    Decides (s.i2c.ready = true ∧ allowed s.i2c.fsm = true) (i2cRequest allowed m s) := by
  refine ⟨fun ⟨hr, ha⟩ => ⟨_, i2cRequest_allowed hr ha⟩, fun hnot => ?_⟩
  rw [i2cRequest]
  split
  · split
    · exact absurd ⟨‹_›, ‹_›⟩ hnot
    · exact ⟨_, rfl⟩
  · exact ⟨_, rfl⟩

theorem decides_spiRequest (m : Req Result) (s : State) : Decides (s.spi.ready = true) (spiRequest m s) :=
  ⟨fun hr => ⟨_, spiRequest_ready hr⟩, fun hnot => ⟨_, if_neg hnot⟩⟩

theorem decides_dcRequest (m : Req Result) (s : State) :
    Decides (s.spi.ready = true ∧ s.dc.present = true) (dcRequest m s) := by
  refine ⟨fun ⟨hr, hp⟩ => ⟨_, dcRequest_ready hr hp⟩, fun hnot => ?_⟩
  rw [dcRequest]
  split
  · split
    · exact absurd ⟨‹_›, ‹_›⟩ hnot
    · exact ⟨_, rfl⟩
  · exact ⟨_, rfl⟩

/-- The states of `I2C_FSM` an I2C request is allowed in (R184, R187, R207). -/
def i2cAllowed (o : Op) (f : Fsm) : Bool :=
  match o with
  | .i2cStart => f == .idle || fsmOpen f
  | .i2cStop | .i2cSendByte | .i2cReceiveByte => fsmOpen f
  | .i2cSendAddress => f == .started
  | .i2cScan | .i2cWrite | .i2cRead | .i2cFastWrite | .i2cFastRead => f == .idle
  | _ => true

theorem i2cAllowed_iff (o : Op) (f : Fsm) : i2cAllowed o f = true ↔
    (o ∈ [Op.i2cStart] → f = .idle ∨ f = .started ∨ f = .byteOut ∨ f = .byteIn) ∧
    (o ∈ [Op.i2cStop, Op.i2cSendByte, Op.i2cReceiveByte] → f = .started ∨ f = .byteOut ∨ f = .byteIn) ∧
    (o ∈ [Op.i2cSendAddress] → f = .started) ∧
    (o ∈ [Op.i2cScan, Op.i2cWrite, Op.i2cRead, Op.i2cFastWrite, Op.i2cFastRead] → f = .idle) := by
  cases o <;> simp [i2cAllowed, fsmOpen_iff]

section
variable {i : Instr} (s : State)

/-- Every I2C request but I2C.Init needs a ready unit in an allowed state (R207). -/
theorem exec_i2c_decides (hfam : familyOf i.op = .i2c) (hinit : i.op ≠ .i2cInit) :
    Decides (s.i2c.ready = true ∧ i2cAllowed i.op s.i2c.fsm = true) (exec i s) := by
  unfold exec
  cases i with
  | i2cInit => exact absurd rfl hinit
  | i2cSetTiming | i2cStart | i2cStop | i2cSendByte | i2cSendAddress | i2cReceiveByte | i2cScan | i2cWrite | i2cRead
  | i2cFastWrite | i2cFastRead => exact decides_i2cRequest _ _ s
  | _ => cases hfam

/-- Every SPI request but SPI.Init needs a ready unit (R248). -/
theorem exec_spi_decides (hfam : familyOf i.op = .spi) (hinit : i.op ≠ .spiInit) :
    Decides (s.spi.ready = true) (exec i s) := by
  unfold exec
  cases i with
  | spiInit => exact absurd rfl hinit
  | spiSetCsLevel | spiEnable | spiDisable | spiWrite | spiTransfer => exact decides_spiRequest _ s
  | _ => cases hfam

/-- Every DC request but DC.Init needs a ready unit with the capability (R280). -/
theorem exec_dc_decides (hfam : familyOf i.op = .dc) (hinit : i.op ≠ .dcInit) :
    Decides (s.spi.ready = true ∧ s.dc.present = true) (exec i s) := by
  unfold exec
  cases i with
  | dcInit => exact absurd rfl hinit
  | dcSetDcLevel | dcWrite | dcTransfer | dcCommandStream | dcResetDance | dcResetTimed => exact decides_dcRequest _ s
  | _ => cases hfam

/-- The three Inits, the function forms, and the ENC and XP requests are never refused (R120, R186, R238, R262,
R297). -/
theorem exec_next (h : i.op ∈ [Op.i2cInit, Op.spiInit, Op.dcInit] ∨ familyOf i.op = .function ∨ familyOf i.op = .enc ∨
    familyOf i.op = .xp) : ∃ t, exec i s = .next t := by
  rcases h with hinit | hfam | hfam | hfam
  · unfold exec
    cases i with
    | i2cInit | spiInit | dcInit => exact ⟨_, rfl⟩
    | _ => simp [Instr.op] at hinit
  · obtain ⟨c, hexec⟩ := exec_function hfam s
    exact ⟨_, hexec⟩
  · obtain ⟨c, hexec⟩ := exec_enc hfam s
    exact ⟨_, hexec⟩
  · unfold exec
    cases i with
    | xpEnqueue | xpExecute | xpRead | xpClearInput | xpClearOutput | xpSetClockDivisor | xpSetLoopback =>
      exact ⟨_, rfl⟩
    | _ => cases hfam

end

/-- Settles O60: a request that needs no Init goes on, and each other family's requests start with its one refusal
check. -/
theorem refusalsAreExactlyTheRules : Obligations.RefusalsAreExactlyTheRules := by
  intro i s isInit opened allowed legal
  change Decides legal (exec i s)
  by_cases hfree : isInit ∨ familyOf i.op = .function ∨ familyOf i.op = .enc ∨ familyOf i.op = .xp
  · have hlegal : legal := by
      rcases hfree with h | h | h | h
      · exact .inl h
      · exact .inr (.inl h)
      · exact .inr (.inr (.inl h))
      · exact .inr (.inr (.inr (.inl h)))
    exact ⟨fun _ => exec_next s hfree, fun hnot => absurd hlegal hnot⟩
  · obtain ⟨hinit, hfunction, henc, hxp⟩ : ¬ isInit ∧ familyOf i.op ≠ .function ∧ familyOf i.op ≠ .enc ∧
        familyOf i.op ≠ .xp := by simpa only [not_or] using hfree
    obtain ⟨hi2c, hspi, hdc⟩ : i.op ≠ .i2cInit ∧ i.op ≠ .spiInit ∧ i.op ≠ .dcInit := by simpa [isInit] using hinit
    cases hfam : familyOf i.op with
    | function => exact absurd hfam hfunction
    | enc => exact absurd hfam henc
    | xp => exact absurd hfam hxp
    | i2c =>
      refine (exec_i2c_decides s hfam hi2c).of_iff ?_
      rw [i2cAllowed_iff]
      simp [legal, hinit, hfam, allowed, opened]
    | spi => exact (exec_spi_decides s hfam hspi).of_iff (by simp [legal, hinit, hfam])
    | dc => exact (exec_dc_decides s hfam hdc).of_iff (by simp [legal, hinit, hfam])

end Sys2Proof.Machine
end

section
/-! PROOFS. The SPI unit and its DC variant (R231 to R243, R262 to R268): the commands of a mode and order, the bytes of
the pin commands, the state an Init or a bracket is flushed in, and how a request ends from there. -/

namespace Sys2Proof.Machine

/-! ## Commands and pin bytes -/

/-- Settles O38, by the four rows of the table of R231. -/
theorem spiModeAndOrderSelectTheCommands : Obligations.SpiModeAndOrderSelectTheCommands := by
  intro mode order
  cases mode with
  | mode0 => cases order <;> exact ⟨rfl, rfl⟩
  | mode2 => cases order <;> exact ⟨rfl, rfl⟩

theorem maskAt_eq (mask : Byte) (level : Bit) : maskAt mask level = if level = .one then mask else 0 := by
  cases level <;> rfl

theorem levelNot_eq_one_iff (l : Bit) : levelNot l = .one ↔ l ≠ .one := by cases l <;> decide

/-- The reset pin is high when it is active and active is high, or inactive and active is low (R264). -/
theorem rstBit_eq_one_iff (p : Params) (rst : Rst) : rstBit p rst = .one ↔ (rst = .active ↔ p.rstActive = .one) := by
  cases rst with
  | active => simp [rstBit]
  | inactive => simp [rstBit, levelNot_eq_one_iff]

/-- Settles O39: the masked bits and the reset bit are those the rules give. -/
theorem pinCommandBytes : Obligations.PinCommandBytes := by
  intro s level
  refine ⟨?_, fun rst => ?_⟩
  · rw [← maskAt_eq]; rfl
  · simp only [← rstBit_eq_one_iff, ← maskAt_eq]; rfl

/-! ## The two Inits -/

/-- The last steps of an Init, by the environment's answer (R238, R262). -/
theorem respondWith_flushThenMark_eq (unmark mark : State → State) (s : State) :
    respondWith (andThen (onFailure executeBuffer unmark) (fun _ => andThen (update mark) fun _ => ret .unit) s) =
      if s.answer.ok = true then (mark s.flushed).respond (.ok .unit)
      else (unmark s.flushLost).respond (.error .transportFailure) := by
  rcases executeBuffer_cases s with ⟨hok, hflush⟩ | ⟨hlost, hflush⟩
  · rw [andThen_of_done (onFailure_of_done hflush _), if_pos hok]; rfl
  · rw [andThen_of_raised (onFailure_of_raised hflush _), if_neg (Bool.eq_false_iff.mp hlost)]; rfl

theorem initialLevel_eq_ite (policy : CsPolicy) :
    initialLevel policy = if policy = .activeLow ∨ policy = .defaultHigh then Bit.one else Bit.zero := by
  cases policy <;> rfl

section
variable {mode : Mode} {order : Order} {csPin : Byte} {policy : CsPolicy} {lowVal lowDir : Byte}
variable {dcPin rstPin highVal highDir : Byte} {s : State}

theorem exec_spiInit_eq : exec (.spiInit mode order csPin policy lowVal lowDir) s = .next (
    let u := s.spiInitSent mode order csPin policy lowVal lowDir
    if legalCsPin s.params csPin = true then
      if u.answer.ok = true then (u.flushed.setSpiReady true).respond (.ok .unit)
      else (u.flushLost.setSpiReady false).respond (.error .transportFailure)
    else s.respond (.error .invalidArgument)) := by
  rw [exec, execSpiInit, complete_eq]
  split
  · exact congrArg _ (respondWith_flushThenMark_eq _ _ (s.spiInitSent mode order csPin policy lowVal lowDir))
  · rfl

theorem exec_dcInit_eq :
    exec (.dcInit mode order csPin policy lowVal lowDir dcPin rstPin highVal highDir) s = .next (
      let u := s.dcInitSent mode order csPin policy lowVal lowDir dcPin rstPin highVal highDir
      if (legalCsPin s.params csPin && legalDcPins dcPin rstPin) = true then
        if u.answer.ok = true then ((u.flushed.setSpiReady true).setDcPresent true).respond (.ok .unit)
        else ((u.flushLost.setSpiReady false).setDcPresent false).respond (.error .transportFailure)
      else s.respond (.error .invalidArgument)) := by
  rw [exec, execDcInit, complete_eq]
  split
  · exact congrArg _ (respondWith_flushThenMark_eq _ _
      (s.dcInitSent mode order csPin policy lowVal lowDir dcPin rstPin highVal highDir))
  · rfl

end

/-- Settles O40: the mask is checked first, and a legal configuration is flushed with chip-select at its first level. -/
theorem spiInitSelectsNothing : Obligations.SpiInitSelectsNothing := by
  intro s mode order csPin policy lowVal lowDir legal level s0 s1
  have hs1 : s1 = s.spiInitSent mode order csPin policy lowVal lowDir := by
    simp only [s1, s0, level, ← initialLevel_eq_ite]; rfl
  rw [exec_spiInit_eq, hs1, ← show legalCsPin s.params csPin = true ↔ legal from legalCsPin_iff ..]
  refine ⟨fun hlegal hok => ?_, fun hlegal hlost => ?_, fun hillegal => ?_⟩
  · rw [if_pos hlegal, if_pos hok]; rfl
  · rw [if_pos hlegal, if_neg (Bool.eq_false_iff.mp hlost)]; rfl
  · rw [if_neg hillegal]; rfl

/-- Settles O44: as SPI.Init, with both masks checked and both pin commands flushed. -/
theorem dcInitReleasesReset : Obligations.DcInitReleasesReset := by
  intro s mode order csPin policy lowVal lowDir dcPin rstPin highVal highDir legal level s0 s1
  have hs1 : s1 = s.dcInitSent mode order csPin policy lowVal lowDir dcPin rstPin highVal highDir := by
    simp only [s1, s0, level, ← initialLevel_eq_ite, State.dcInitSent, State.setSpiConfig, State.setDcConfig,
      State.setCsLevel, State.setDcLevel, State.enqueue]
    rfl
  have hmasks : (legalCsPin s.params csPin && legalDcPins dcPin rstPin) = true ↔ legal := by
    rw [Bool.and_eq_true, legalCsPin_iff, legalDcPins_iff, and_assoc]
  rw [exec_dcInit_eq, hs1, ← hmasks]
  refine ⟨fun hlegal hok => ?_, fun hlegal hlost => ?_, fun hillegal => ?_⟩
  · rw [if_pos hlegal, if_pos hok]; rfl
  · rw [if_pos hlegal, if_neg (Bool.eq_false_iff.mp hlost)]; rfl
  · rw [if_neg hillegal]; rfl

/-! ## Chip-select -/

/-- The state after the enable sequence (R235). -/
def State.opened (s : State) : State := (s.setCsLevel (openedLevel s)).enqueue (openBytes s)

/-- The state after the disable sequence (R236). -/
def State.closed (s : State) : State := (s.setCsLevel (closedLevel s)).enqueue (closeBytes s)

theorem State.enqueue_nil (s : State) : s.enqueue [] = s := by rw [State.enqueue, List.append_nil]

theorem spiEnable_apply (s : State) : spiEnable s = .done () s.opened := by
  rw [spiEnable, withState_apply, State.opened, openedLevel, openBytes]
  cases s.spi.policy with
  | activeLow | activeHigh => rfl
  | defaultLow | defaultHigh => exact congrArg (Res.done ()) s.enqueue_nil.symm

theorem spiDisable_apply (s : State) : spiDisable s = .done () s.closed := by
  rw [spiDisable, withState_apply, State.closed, closedLevel, closeBytes]
  cases s.spi.policy with
  | activeLow | activeHigh => rfl
  | defaultLow | defaultHigh => exact congrArg (Res.done ()) s.enqueue_nil.symm

/-- Settles O41: a ready unit's level requests are the register write and its `enqueue`, or nothing. -/
theorem spiLevelRequests : Obligations.SpiLevelRequests := by
  intro s hr
  refine ⟨fun level => ?_, ?_, ?_, initialLevel_eq⟩
  · rw [exec, execSpiSetCsLevel, spiRequest_ready hr]; rfl
  · rw [exec, execSpiEnable, spiRequest_ready hr, andThen_of_done (spiEnable_apply s)]; rfl
  · rw [exec, execSpiDisable, spiRequest_ready hr, andThen_of_done (spiDisable_apply s)]; rfl

/-! ## What a bracket encloses -/

/-- The piece appends to `CB` the bytes `f` gives and does nothing else. -/
def Appends (m : Req Unit) (f : State → Bytes) : Prop := ∀ s, m s = .done () (s.enqueue (f s))

theorem State.enqueue_enqueue (s : State) (as bs : Bytes) : (s.enqueue as).enqueue bs = s.enqueue (as ++ bs) := by
  simp [State.enqueue]

theorem Steady.enqueue {β : Type} {f : State → β} (hf : Steady f) (s : State) (bs : Bytes) : f (s.enqueue bs) = f s :=
  hf.congr rfl

theorem Steady.setDcLevel {β : Type} {f : State → β} (hf : Steady f) (s : State) (l : Bit) : f (s.setDcLevel l) = f s :=
  hf.congr rfl

theorem Steady.opened {β : Type} {f : State → β} (hf : Steady f) (s : State) : f s.opened = f s := hf.congr rfl

theorem Appends.forEach {α : Type} {xs : List α} {k : α → Req Unit} {g : α → State → Bytes}
    (hk : ∀ x ∈ xs, Appends (k x) (g x)) (hg : ∀ x, Steady (g x)) :
    Appends (forEach xs k) fun s => xs.flatMap fun x => g x s := by
  induction xs with
  | nil => exact fun s => congrArg (Res.done ()) s.enqueue_nil.symm
  | cons x xs ih =>
    obtain ⟨hx, hxs⟩ := List.forall_mem_cons.mp hk
    intro s
    rw [forEach_cons, andThen_of_done (hx s), ih hxs, State.enqueue_enqueue]
    simp only [(hg _).enqueue, List.flatMap_cons]

section
variable {payload : Bytes} {off n : Nat} (h : LegalRange payload off n)
include h

theorem appends_enqueueWrite : Appends (enqueueWrite payload off n)
    fun s => transferBytes s.params (writeCmd s) (memRead payload off n) := by
  intro s
  rw [enqueueWrite, withState_apply, encTransfer_write, formatY_of_legal _ _ h.pos h.le h.inside]
  rfl

theorem appends_enqueueDuplex : Appends (enqueueDuplex payload off n)
    fun s => transferBytes s.params (duplexCmd s) (memRead payload off n) := by
  intro s
  rw [enqueueDuplex, withState_apply, encTransfer_duplex, formatY_of_legal _ _ h.pos h.le h.inside]
  rfl

end

/-! ## How a bracketed request ends -/

/-- The state in which a bracket round the bytes `bs` is flushed, `DC_LEVEL` written with `l` (R237, R267). -/
def State.bracketSent (s : State) (l : Bit) (bs : Bytes) : State :=
  ((s.setCsLevel (closedLevel s)).setDcLevel l).enqueue (openBytes s ++ bs ++ closeBytes s)

/-- Closing undoes what opening did to `CS_LEVEL`, or neither writes it (R234). -/
theorem closed_opened (s : State) (l : Bit) (bs : Bytes) :
    ((s.opened.setDcLevel l).enqueue bs).closed = s.bracketSent l bs := by
  have hlevel : closedLevel ((s.opened.setDcLevel l).enqueue bs) = closedLevel s := by
    cases hp : s.spi.policy <;> simp [closedLevel, openedLevel, State.opened, hp]
  have hclose : Steady closeBytes := fun _ => rfl
  have hbytes : closeBytes ((s.opened.setDcLevel l).enqueue bs) = closeBytes s := by
    rw [hclose.enqueue, hclose.setDcLevel, hclose.opened]
  rw [State.closed, hlevel, hbytes]
  simp [State.bracketSent, State.opened, State.enqueue, State.setCsLevel, State.setDcLevel]

theorem bracketed_apply {inside : Req Unit} {s : State} {l : Bit} {bs : Bytes}
    (h : inside s.opened = .done () ((s.opened.setDcLevel l).enqueue bs)) :
    bracketed inside s = executeBuffer (s.bracketSent l bs) := by
  rw [bracketed, andThen_of_done (spiEnable_apply s), andThen_of_done h, andThen_of_done (spiDisable_apply _),
    closed_opened]

/-- A request after its flush, by the environment's answer (R63). -/
theorem respondWith_executeBuffer (k : Unit → Req Result) (s : State) :
    respondWith (andThen executeBuffer k s) = flushThen s fun t => respondWith (k () t) := by
  rcases executeBuffer_cases s with ⟨hok, hflush⟩ | ⟨hlost, hflush⟩
  · rw [andThen_of_done hflush, flushThen_of_ok hok]
  · rw [andThen_of_raised hflush, flushThen_of_lost hlost]; rfl

/-- A request after its read, by the environment's answer (R64). -/
theorem respondWith_read {n : Nat} (hn : n ≠ 0) (k : Bytes → Req Result) (s : State) :
    respondWith (andThen (read n) k s) = readThen s n fun r u => respondWith (k r u) := by
  rcases read_cases n s with ⟨hzero, -⟩ | ⟨-, hok, hread⟩ | ⟨-, hlost, hread⟩
  · exact absurd hzero hn
  · rw [andThen_of_done hread, readThen_of_ok hok]
  · rw [andThen_of_raised hread, readThen_of_lost hlost]; rfl

section
variable {inside : Req Unit} {f : State → Bytes}

/-- A request that is a bracket round bytes, and what follows its flush (R237). -/
theorem respondWith_bracketed (h : Appends inside f) (hf : Steady f) (k : Unit → Req Result) (s : State) :
    respondWith (andThen (bracketed inside) k s) =
      flushThen (s.bracketSent s.dc.dcLevel (f s)) fun t => respondWith (k () t) := by
  have hinside : inside s.opened = .done () ((s.opened.setDcLevel s.dc.dcLevel).enqueue (f s)) := by
    rw [h, hf.opened]; rfl
  rw [← respondWith_executeBuffer, andThen, andThen, bracketed_apply hinside]

/-- The same with a data/command pin command first in the bracket (R267, R277). -/
theorem respondWith_dcBracketed (h : Appends inside f) (hf : Steady f) (l : Bit) (k : Unit → Req Result) (s : State) :
    respondWith (andThen (bracketed (andThen (dcSet l .inactive) fun _ => inside)) k s) =
      flushThen (s.bracketSent l (dcCmd s l .inactive ++ f s)) fun t => respondWith (k () t) := by
  have hinside : andThen (dcSet l .inactive) (fun _ => inside) s.opened =
      .done () ((s.opened.setDcLevel l).enqueue (dcCmd s l .inactive ++ f s)) := by
    have hsame : f ((s.opened.setDcLevel l).enqueue (dcCmd s.opened l .inactive)) = f s := by
      rw [hf.enqueue, hf.setDcLevel, hf.opened]
    rw [dcSet, andThen_update, h, State.enqueue_enqueue, hsame]; rfl
  rw [← respondWith_executeBuffer, andThen, andThen, bracketed_apply hinside]

end

/-! ## SPI.Write and SPI.Transfer -/

theorem legalByteCount_iff (n : Nat) : legalByteCount n = true ↔ 1 ≤ n ∧ n ≤ 65536 := by simp [legalByteCount]

theorem bracketSent_transfer (s : State) (bs : Bytes) : s.bracketSent s.dc.dcLevel bs = { s with
    spi.csLevel := closedLevel s
    xp.cb := s.xp.cb ++ openBytes s ++ bs ++ closeBytes s } := by
  simp [State.bracketSent, State.enqueue, State.setCsLevel, State.setDcLevel]

/-- Settles O42: one write command of the whole payload in a bracket. -/
theorem spiWriteBrackets : Obligations.SpiWriteBrackets := by
  intro s payload hr
  dsimp only
  rw [exec, execSpiWrite, spiRequest_ready hr]
  refine ⟨fun hpos hle => ?_, fun hbad => ?_⟩
  · have hlegal := (legalByteCount_iff _).mpr ⟨hpos, hle⟩
    rw [if_pos hlegal, respondWith_bracketed (appends_enqueueWrite (legalRange_whole hlegal)) fun _ => rfl,
      memRead_whole, bracketSent_transfer]
    rfl
  · rw [if_neg (by rw [legalByteCount_iff]; omega)]; rfl

/-- Settles O43: one duplex command of the whole payload in a bracket, and one read. -/
theorem spiTransferBrackets : Obligations.SpiTransferBrackets := by
  intro s payload hr
  dsimp only
  rw [exec, execSpiTransfer, spiRequest_ready hr]
  refine ⟨fun hpos hle => ?_, fun hbad => ?_⟩
  · have hlegal := (legalByteCount_iff _).mpr ⟨hpos, hle⟩
    rw [if_pos hlegal, respondWith_bracketed (appends_enqueueDuplex (legalRange_whole hlegal)) fun _ => rfl,
      memRead_whole, bracketSent_transfer]
    simp only [respondWith_read (Nat.ne_of_gt hpos)]
    rfl
  · rw [if_neg (by rw [legalByteCount_iff]; omega)]; rfl

/-! ## DC.Write and DC.Transfer -/

theorem bracketSent_chunks (s : State) (c : State → Cmd) (payload : Bytes) (isCommand : Bool) :
    s.bracketSent (dcLevelOf isCommand) (dcCmd s (dcLevelOf isCommand) .inactive ++
      (dcChunks payload.length).flatMap fun k => transferBytes s.params (c s) (memRead payload k.1 k.2)) = { s with
        spi.csLevel := closedLevel s
        dc.dcLevel := if isCommand then Bit.zero else Bit.one
        xp.cb := s.xp.cb ++ dcTransferBytes s (c s) payload isCommand } := by
  simp [State.bracketSent, State.enqueue, State.setCsLevel, State.setDcLevel, dcTransferBytes, dcLevelOf, memRead]

/-- Settles O46: the pin command and one write command per chunk in a bracket. -/
theorem dcWriteBrackets : Obligations.DcWriteBrackets := by
  intro s payload isCommand hr hp
  dsimp only
  rw [exec, execDcWrite, dcRequest_ready hr hp]
  refine ⟨fun hpos => ?_, fun hempty => ?_⟩
  · have hchunks := Appends.forEach (fun c hc => appends_enqueueWrite (dcChunks_legal hpos c hc)) fun _ _ => rfl
    rw [if_neg (by omega), respondWith_dcBracketed hchunks fun _ => rfl, bracketSent_chunks]
    rfl
  · rw [hempty]; rfl

/-- Settles O47: the pin command and one duplex command per chunk in a bracket, and one read of the sum. -/
theorem dcTransferBrackets : Obligations.DcTransferBrackets := by
  intro s payload isCommand hr hp
  dsimp only
  rw [exec, execDcTransfer, dcRequest_ready hr hp]
  refine ⟨fun hpos => ?_, fun hempty => ?_⟩
  · have hchunks := Appends.forEach (fun c hc => appends_enqueueDuplex (dcChunks_legal hpos c hc)) fun _ _ => rfl
    rw [if_neg (by omega), respondWith_dcBracketed hchunks fun _ => rfl, bracketSent_chunks]
    simp only [respondWith_read (Nat.ne_of_gt hpos)]
    rfl
  · rw [hempty]; rfl

end Sys2Proof.Machine
end

section
/-! PROOFS. Chunks and command streams (R266, R269 to R271): where each chunk starts and how long it is, and what the
written form of a list of entries parses to, one entry at a time. -/

namespace Sys2Proof.Machine

/-! ## Chunks -/

theorem chunksFrom_ne_nil (fuel off left : Nat) : chunksFrom fuel off left ≠ [] := by
  cases fuel with
  | zero => exact nofun
  | succ fuel => rw [chunksFrom]; split <;> exact nofun

/-- No chunk is empty, and none is over 65535 bytes where the fuel suffices for the length (R266). -/
theorem chunksFrom_size {fuel off left : Nat} (hleft : 1 ≤ left) (hfuel : left ≤ fuel + 65535) :
    ∀ c ∈ chunksFrom fuel off left, 1 ≤ c.2 ∧ c.2 ≤ 65535 := by
  induction fuel generalizing off left with
  | zero => exact List.forall_mem_singleton.mpr ⟨hleft, by omega⟩
  | succ fuel ih =>
    rw [chunksFrom]
    split
    · exact List.forall_mem_cons.mpr ⟨⟨by omega, le_rfl⟩, ih (by omega) (by omega)⟩
    · exact List.forall_mem_singleton.mpr ⟨hleft, by omega⟩

/-- Every chunk but the last is full (R266). -/
theorem chunksFrom_full (fuel off left : Nat) : ∀ c ∈ (chunksFrom fuel off left).dropLast, c.2 = 65535 := by
  induction fuel generalizing off left with
  | zero => exact nofun
  | succ fuel ih =>
    rw [chunksFrom]
    split
    · rw [List.dropLast_cons_of_ne_nil (chunksFrom_ne_nil _ _ _)]
      exact List.forall_mem_cons.mpr ⟨rfl, ih _ _⟩
    · exact nofun

/-- A chunk starts where the lengths of those before it end (R266). -/
theorem chunksFrom_offset (fuel off left k : Nat) (h : k < (chunksFrom fuel off left).length) :
    ((chunksFrom fuel off left)[k]).1 = off + (((chunksFrom fuel off left).take k).map Prod.snd).sum := by
  induction fuel generalizing off left k with
  | zero =>
    obtain rfl : k = 0 := Nat.lt_one_iff.mp h
    rfl
  | succ fuel ih =>
    cases k with
    | zero => rw [List.take_zero]; simp only [chunksFrom]; split <;> rfl
    | succ k =>
      simp only [chunksFrom] at h ⊢
      split
      next hmore =>
        rw [if_pos hmore] at h
        simp only [List.getElem_cons_succ, List.take_succ_cons, List.map_cons, List.sum_cons]
        rw [ih _ _ _ (Nat.lt_of_succ_lt_succ h), Nat.add_assoc]
      next hlast =>
        rw [if_neg hlast] at h
        exact absurd h (by simp)

theorem dcChunks_of_le {len : Nat} (h : len ≤ 65536) : dcChunks len = [(0, len)] := if_pos h

theorem dcChunks_of_gt {len : Nat} (h : 65536 < len) : dcChunks len = chunksFrom len 0 len :=
  if_neg (Nat.not_le.mpr h)

/-- Settles O51: a payload of one command is one chunk, and a longer one is cut by `chunksFrom`. -/
theorem chunksCoverThePayload : Obligations.ChunksCoverThePayload := by
  intro len hpos
  refine ⟨dcChunks_of_le, fun hlong => ?_, dcChunks_sum len, fun k hk => ?_⟩
  · rw [dcChunks_of_gt hlong]
    exact ⟨chunksFrom_size hpos (by omega), chunksFrom_full _ _ _⟩
  · rcases Nat.lt_or_ge 65536 len with hlong | hshort
    · simp only [dcChunks_of_gt hlong] at hk ⊢
      rw [chunksFrom_offset, Nat.zero_add]
    · simp only [dcChunks_of_le hshort] at hk ⊢
      obtain rfl : k = 0 := Nat.lt_one_iff.mp hk
      rfl

/-! ## The written form of an entry -/

/-- An entry as the stream holds it: command byte, count byte with its top bit as given, arguments (R269, R271). -/
def entryImage (e : Byte × Bool × Bytes) : Bytes :=
  e.1 :: BitVec.ofNat 8 (e.2.2.length + if e.2.1 then 128 else 0) :: e.2.2

theorem entryImage_length (e : Byte × Bool × Bytes) : (entryImage e).length = e.2.2.length + 2 := rfl

/-- The count byte is taken modulo 128 (R271). -/
theorem argCount_eq_mod (b : Byte) : argCount b = b.toNat % 128 := by
  rw [argCount, BitVec.toNat_and]
  exact Nat.and_two_pow_sub_one_eq_mod b.toNat 7

theorem argCount_ofNat {n : Nat} (h : n ≤ 127) (top : Bool) :
    argCount (BitVec.ofNat 8 (n + if top then 128 else 0)) = n := by
  rw [argCount_eq_mod, BitVec.toNat_ofNat]
  split <;> omega

/-- The positions and argument counts of entries written from index `i` on (R270). -/
def entryPositions (i : Nat) (entries : List (Byte × Bool × Bytes)) : List (Nat × Nat) :=
  (List.range entries.length).map fun k =>
    (i + ((entries.take k).flatMap entryImage).length, (entries.map fun e => e.2.2.length).getD k 0)

theorem entryPositions_cons (i : Nat) (e : Byte × Bool × Bytes) (entries : List (Byte × Bool × Bytes)) :
    entryPositions i (e :: entries) =
      (i, e.2.2.length) :: entryPositions (i + (entryImage e).length) entries := by
  simp [entryPositions, List.range_succ_eq_map, Nat.add_assoc, Function.comp_def]

/-! ## Parsing from an index -/

theorem parseFrom_end (fuel : Nat) (buf : Bytes) : parseFrom fuel buf buf.length = .ok [] := by
  cases fuel with
  | zero => rfl
  | succ fuel => rw [parseFrom, if_neg (Nat.lt_irrefl _)]

theorem parseFrom_loneCommand (fuel : Nat) (before : Bytes) (c : Byte) :
    parseFrom (fuel + 1) (before ++ [c]) before.length = .error .invalidArgument := by
  have hlen : (before ++ [c]).length = before.length + 1 := by simp
  rw [parseFrom, if_pos (by omega), if_pos (by omega)]

theorem countByte_getD (before rest : Bytes) (c count : Byte) :
    (before ++ c :: count :: rest).getD (before.length + 1) 0 = count := by
  simp

/-- A command byte with a count byte that asks for more than is there (R270). -/
theorem parseFrom_truncated (fuel : Nat) (before : Bytes) (c count : Byte) {args : Bytes}
    (h : args.length < argCount count) :
    parseFrom (fuel + 1) (before ++ c :: count :: args) before.length = .error .invalidArgument := by
  have hlen : (before ++ c :: count :: args).length = before.length + args.length + 2 := by simp; omega
  rw [parseFrom, countByte_getD, if_pos (by omega), if_neg (by omega), if_pos (by omega)]

/-- The parser's answer with entries found before it. -/
def foundBefore (found : List (Nat × Nat)) (r : Except Error (List (Nat × Nat))) : Except Error (List (Nat × Nat)) :=
  r.map (found ++ ·)

/-- One entry is read where it stands, and the parser goes on behind it (R270, R271). -/
theorem parseFrom_entryImage (fuel : Nat) (before rest : Bytes) {e : Byte × Bool × Bytes} (h : e.2.2.length ≤ 127) :
    parseFrom (fuel + 1) (before ++ entryImage e ++ rest) before.length =
      foundBefore [(before.length, e.2.2.length)]
        (parseFrom fuel (before ++ entryImage e ++ rest) (before ++ entryImage e).length) := by
  have hcount : argCount ((before ++ entryImage e ++ rest).getD (before.length + 1) 0) = e.2.2.length := by
    rw [List.append_assoc, entryImage, List.cons_append, List.cons_append, countByte_getD, argCount_ofNat h]
  have hnext : (before ++ entryImage e).length = before.length + 2 + e.2.2.length := by
    rw [List.length_append, entryImage_length]; omega
  have hlen : (before ++ entryImage e ++ rest).length = before.length + 2 + e.2.2.length + rest.length := by
    rw [List.length_append, hnext]
  rw [parseFrom, hcount, if_pos (by omega), if_neg (by omega), if_neg (by omega), hnext]
  cases parseFrom fuel (before ++ entryImage e ++ rest) (before.length + 2 + e.2.2.length) <;> rfl

/-- Entries are read one after the other, and the parser goes on behind the last (R270). -/
theorem parseFrom_entries (fuel : Nat) (before rest : Bytes) {entries : List (Byte × Bool × Bytes)}
    (h : ∀ e ∈ entries, e.2.2.length ≤ 127) :
    parseFrom (fuel + entries.length) (before ++ entries.flatMap entryImage ++ rest) before.length =
      foundBefore (entryPositions before.length entries)
        (parseFrom fuel (before ++ entries.flatMap entryImage ++ rest)
          (before ++ entries.flatMap entryImage).length) := by
  induction entries generalizing before with
  | nil =>
    rw [List.flatMap_nil, List.append_nil]
    cases parseFrom fuel (before ++ rest) before.length <;> rfl
  | cons e entries ih =>
    obtain ⟨he, hentries⟩ := List.forall_mem_cons.mp h
    have hbuf : before ++ (e :: entries).flatMap entryImage ++ rest =
        before ++ entryImage e ++ (entries.flatMap entryImage ++ rest) := by simp
    have htail := ih (before ++ entryImage e) hentries
    rw [List.append_assoc (before ++ entryImage e)] at htail
    rw [hbuf, List.length_cons, ← Nat.add_assoc, parseFrom_entryImage _ _ _ he, htail, entryPositions_cons,
      List.flatMap_cons, ← List.append_assoc before, List.length_append (as := before)]
    generalize parseFrom fuel _ _ = r
    cases r <;> rfl

theorem entries_length_le (entries : List (Byte × Bool × Bytes)) :
    entries.length ≤ (entries.flatMap entryImage).length := by
  induction entries with
  | nil => exact le_rfl
  | cons e entries ih =>
    rw [List.flatMap_cons, List.length_append, entryImage_length, List.length_cons]
    omega

/-- A stream parses to its entries and what the parser makes of the bytes behind them. -/
theorem parseStream_entries (rest : Bytes) {entries : List (Byte × Bool × Bytes)}
    (h : ∀ e ∈ entries, e.2.2.length ≤ 127) : ∃ fuel, rest.length ≤ fuel ∧
    parseStream (entries.flatMap entryImage ++ rest) = foundBefore (entryPositions 0 entries)
      (parseFrom fuel (entries.flatMap entryImage ++ rest) (entries.flatMap entryImage).length) := by
  have hlen := entries_length_le entries
  obtain ⟨fuel, hfuel⟩ := Nat.exists_eq_add_of_le' (Nat.le_add_right_of_le hlen (k := rest.length))
  refine ⟨fuel, by omega, ?_⟩
  rw [parseStream, List.length_append, hfuel]
  exact parseFrom_entries fuel [] rest h

/-- Settles O52, by what the parser does at the end of the entries. -/
theorem streamParsesItsEntriesIgnoringTopBits : Obligations.StreamParsesItsEntriesIgnoringTopBits := by
  intro entries hlegal image
  change parseStream (entries.flatMap entryImage) = .ok _ ∧
    (∀ c, parseStream (entries.flatMap entryImage ++ [c]) = _) ∧
    ∀ c count args, _ → parseStream (entries.flatMap entryImage ++ c :: count :: args) = _
  refine ⟨?_, fun c => ?_, fun c count args hshort => ?_⟩
  · obtain ⟨fuel, -, hparse⟩ := parseStream_entries [] hlegal
    rw [List.append_nil, parseFrom_end] at hparse
    rw [hparse]
    simp [foundBefore, Except.map, entryPositions, image, entryImage]
  · obtain ⟨fuel, hfuel, hparse⟩ := parseStream_entries [c] hlegal
    obtain ⟨fuel, rfl⟩ := Nat.exists_eq_add_of_le' (Nat.le_trans (by simp) hfuel : 1 ≤ fuel)
    rw [hparse, parseFrom_loneCommand]; rfl
  · obtain ⟨fuel, hfuel, hparse⟩ := parseStream_entries (c :: count :: args) hlegal
    obtain ⟨fuel, rfl⟩ := Nat.exists_eq_add_of_le' (Nat.le_trans (by simp) hfuel : 1 ≤ fuel)
    rw [hparse, parseFrom_truncated fuel _ c count (by rw [argCount_eq_mod]; exact hshort)]; rfl

end Sys2Proof.Machine
end

section
/-! PROOFS. The other DC requests (R264, R265, R272 to R277): pin commands and transfers in a row, each data/command
level taken over by the next, and the flush or flushes they end with. -/

namespace Sys2Proof.Machine

/-! ## States between pin commands -/

/-- The state with `DC_LEVEL` written with `l` and `bs` appended to `CB` (R264). -/
def State.driven (s : State) (l : Bit) (bs : Bytes) : State := (s.setDcLevel l).enqueue bs

theorem State.driven_driven (s : State) (l l' : Bit) (as bs : Bytes) :
    (s.driven l as).driven l' bs = s.driven l' (as ++ bs) := by
  simp [State.driven, State.enqueue, State.setDcLevel]

theorem State.driven_enqueue (s : State) (l : Bit) (as bs : Bytes) :
    (s.driven l as).enqueue bs = s.driven l (as ++ bs) := State.enqueue_enqueue _ as bs

theorem State.driven_self (s : State) (bs : Bytes) : s.driven s.dc.dcLevel bs = s.enqueue bs := rfl

theorem State.driven_nothing (s : State) : s.driven s.dc.dcLevel [] = s := s.enqueue_nil

theorem Steady.driven {β : Type} {f : State → β} (hf : Steady f) (s : State) (l : Bit) (bs : Bytes) :
    f (s.driven l bs) = f s := hf.congr rfl

theorem dcSet_apply (l : Bit) (rst : Rst) (s : State) :
    dcSet l rst s = .done () (s.driven l (dcCmd s l rst)) := rfl

theorem dcToggle_apply (rst : Rst) (s : State) :
    dcToggle rst s = .done () (s.driven (levelNot s.dc.dcLevel) (dcCmd s (levelNot s.dc.dcLevel) rst)) := rfl

/-! ## DC.SetDcLevel -/

/-- Settles O45: a ready unit's request is its one pin command. -/
theorem dcSetDcLevelAppends : Obligations.DcSetDcLevelAppends := by
  intro s isCommand hr hp
  rw [exec, execDcSetDcLevel, dcRequest_ready hr hp, andThen_of_done (dcSet_apply _ _ s)]
  rfl

/-! ## DC.CommandStream -/

/-- A pin command and a transfer under it (R272). -/
theorem dcSet_thenWrite_apply {buf : Bytes} {off n : Nat} (h : LegalRange buf off n) (l : Bit) (s : State) :
    andThen (dcSet l .inactive) (fun _ => enqueueWrite buf off n) s = .done () (s.driven l
      (dcCmd s l .inactive ++ transferBytes s.params (writeCmd s) (memRead buf off n))) := by
  rw [andThen_of_done (dcSet_apply l .inactive s), appends_enqueueWrite h, State.driven_enqueue]
  rfl

/-- One entry: the level is 0 after its command byte and 1 after its arguments, if it has any (R272). -/
theorem streamEntry_apply {buf : Bytes} {e : Nat × Nat} (h : LegalEntry buf e) (s : State) :
    streamEntry buf e s =
      .done () (s.driven (if e.2 = 0 then .zero else .one) (entryBytes s buf e)) := by
  rw [streamEntry, ← andThen_assoc, andThen_of_done (dcSet_thenWrite_apply h.command .zero s)]
  by_cases hzero : e.2 = 0
  · rw [if_neg (by omega), if_pos hzero, entryBytes, if_pos hzero, List.append_nil]
    rfl
  · rw [if_pos (by omega), dcSet_thenWrite_apply (h.args hzero), State.driven_driven, if_neg hzero, entryBytes,
      if_neg hzero]
    rfl

theorem levelAfterStream_cons (s : State) (e : Nat × Nat) (entries : List (Nat × Nat)) (bs : Bytes) :
    levelAfterStream (s.driven (if e.2 = 0 then .zero else .one) bs) entries = levelAfterStream s (e :: entries) := by
  cases entries <;> simp [levelAfterStream, State.driven, List.getLast?_cons]

/-- The entries of a stream, played in turn (R272). -/
theorem streamEntries_apply {buf : Bytes} {entries : List (Nat × Nat)} (h : ∀ e ∈ entries, LegalEntry buf e)
    (s : State) : forEach entries (streamEntry buf) s =
      .done () (s.driven (levelAfterStream s entries) (entries.flatMap (entryBytes s buf))) := by
  induction entries generalizing s with
  | nil => exact congrArg (Res.done ()) s.driven_nothing.symm
  | cons e entries ih =>
    obtain ⟨he, hentries⟩ := List.forall_mem_cons.mp h
    rw [forEach_cons, andThen_of_done (streamEntry_apply he s), ih hentries, State.driven_driven,
      levelAfterStream_cons]
    rfl

theorem bracketSent_stream (s : State) (l : Bit) (bs : Bytes) : s.bracketSent l bs = { s with
    spi.csLevel := closedLevel s
    dc.dcLevel := l
    xp.cb := s.xp.cb ++ openBytes s ++ bs ++ closeBytes s } := by
  simp [State.bracketSent, State.enqueue, State.setCsLevel, State.setDcLevel]

/-- Settles O48: a parsed stream is one bracket round its entries, and a malformed one is rejected whole. -/
theorem dcCommandStreamPlaysTheEntries : Obligations.DcCommandStreamPlaysTheEntries := by
  intro s buf hr hp
  rw [exec, execDcCommandStream, dcRequest_ready hr hp]
  refine ⟨fun entries hparse => ?_, fun e hparse => ?_⟩
  · have hentries := streamEntries_apply (parseStream_legal hparse) s.opened
    rw [hparse, ← bracketSent_stream]
    dsimp only
    rw [andThen, bracketed_apply hentries]
    exact congrArg _ (respondWith_executeBuffer (fun _ => ret .unit) _)
  · rw [hparse, parseFrom_error hparse]
    rfl

/-! ## DC.ResetDance -/

/-- Toggles in a row: the level changes once for each (R273). -/
theorem toggles_apply (rsts : List Rst) (s : State) : forEach rsts dcToggle s =
    .done () (s.driven (levelNot^[rsts.length] s.dc.dcLevel) (toggleBytes s s.dc.dcLevel rsts)) := by
  induction rsts generalizing s with
  | nil => exact congrArg (Res.done ()) s.driven_nothing.symm
  | cons rst rest ih =>
    rw [forEach_cons, andThen_of_done (dcToggle_apply rst s), ih, State.driven_driven,
      (steady_toggleBytes _ rest).driven]
    rfl

theorem levelNot_levelNot (l : Bit) : levelNot (levelNot l) = l := by cases l <;> rfl

/-- The six toggles of the dance bring the level back (R274). -/
theorem dance_apply (s : State) :
    andThen (forEach (List.replicate 5 ()) fun _ => dcToggle .inactive) (fun _ => dcToggle .active) s =
      .done () (s.enqueue (danceBytes s)) := by
  have htoggles := toggles_apply [.inactive, .inactive, .inactive, .inactive, .inactive, .active] s
  have hlevel : levelNot^[6] s.dc.dcLevel = s.dc.dcLevel := by
    simp only [Function.iterate_succ_apply, Function.iterate_zero_apply, levelNot_levelNot]
  simp only [← danceBytes_eq, forEach_cons, forEach_nil, andThen_ret_unit, List.length_cons, List.length_nil, hlevel,
    State.driven_self] at htoggles
  simpa only [List.replicate, forEach_cons, forEach_nil, andThen_assoc, andThen_ret] using htoggles

/-- Settles O49: the toggles and then the flush. -/
theorem dcResetDanceTogglesSixTimes : Obligations.DcResetDanceTogglesSixTimes := by
  intro s hr hp
  rw [exec, execDcResetDance, dcRequest_ready hr hp, ← andThen_assoc, andThen_of_done (dance_apply s)]
  exact congrArg _ (respondWith_executeBuffer (fun _ => ret .unit) _)

/-! ## DC.ResetTimed -/

/-- What follows a flush matters only in the state the flush leaves. -/
theorem flushThen_congr {s : State} {good good' : State → State} (h : good s.flushed = good' s.flushed) :
    flushThen s good = flushThen s good' := by
  rw [flushThen, flushThen, h]

/-- Settles O50: the release is queued, flushed and waited for only after the assertion was. -/
theorem dcResetTimedAssertsThenReleases : Obligations.DcResetTimedAssertsThenReleases := by
  intro s ms1 ms2 hr hp s1
  rw [exec, execDcResetTimed, dcRequest_ready hr hp, andThen_update, respondWith_executeBuffer]
  refine congrArg _ (flushThen_congr ?_)
  rw [andThen_of_done (delay_apply ms1 _), andThen_update, respondWith_executeBuffer]
  exact flushThen_congr rfl

end Sys2Proof.Machine
end

section
/-! PROOFS. The XP requests that call no transport operation that can fail (R290, R293 to R296): each is one register
write, answered OK. -/

namespace Sys2Proof.Machine

/-- A request that is one register write and its result ends OK in the state written (R300). -/
theorem complete_update (f : State → State) (v : Result) (s : State) :
    complete (andThen (update f) fun _ => ret v) s = .next ((f s).respond (.ok v)) := by
  rw [complete_eq, andThen_update, ret_apply, respondWith_done]

/-- Settles O15: each request is the one register write of its transport operation. -/
theorem xpWritesAndDiscards : Obligations.XpWritesAndDiscards := by
  intro s
  refine ⟨fun bytes => ?enqueue, ?clearInput, ?clearOutput, fun d => ?setClockDivisor, fun b => ?setLoopback⟩
  case enqueue => rw [exec, execXpEnqueue, enqueue, complete_update]; rfl
  case clearInput => rw [exec, execXpClearInput, clearInput, complete_update]; rfl
  case clearOutput => rw [exec, execXpClearOutput, clearOutput, complete_update]; rfl
  case setClockDivisor => rw [exec, execXpSetClockDivisor, setClockDivisor, complete_update]; rfl
  case setLoopback => rw [exec, execXpSetLoopback, loopbackEnabled, complete_update]; rfl

end Sys2Proof.Machine
end

section
/-! PROOFS. InvalidArgument is raised before anything else is done (R302, R307): the operand checks come first, and no
piece of a request that runs after them raises it. -/

namespace Sys2Proof.Machine

/-! ## What raises no InvalidArgument -/

/-- Any error but InvalidArgument. -/
def NotInvalid (e : Error) (_ : State) : Prop := e ≠ .invalidArgument

theorem Sends.raises_notInvalid {α : Type} {n : Nat} {m : Req α} {f : State → Bytes} (h : Sends n m f) :
    Raises NotInvalid m :=
  .of_sends h fun _ => Error.noConfusion

theorem raiseNack_notInvalid (k : Option Nat) : Raises NotInvalid (raiseNack k) := by
  cases k with
  | none => exact .ret ()
  | some j => exact .raise fun _ => Error.noConfusion

/-- A transaction raises its missing acknowledgments, or TransportFailure (R200 to R202). -/
theorem Transacts.raises_notInvalid {α : Type} {k : Nat} {legs : State → List Bytes} {tail : State → Bytes}
    {m : Req α} (h : Transacts k legs tail m) : Raises NotInvalid m := by
  rintro s e t hr rfl
  have hends := h s
  rw [Ends, hr] at hends
  obtain ⟨j, he, -⟩ := hends nofun
  cases he

/-! ## Requests that reject before they act -/

/-- Where the request raises InvalidArgument, it has left the state alone. -/
def RejectsUntouched (m : Req Result) : Prop := ∀ s t, m s = .raised .invalidArgument t → t = s

namespace RejectsUntouched
variable {m : Req Result} {s t : State}

/-- A failed operand check. -/
theorem raise (e : Error) : RejectsUntouched (Machine.raise e) := by
  intro s t h
  cases h
  rfl

theorem of_raises (h : Raises NotInvalid m) : RejectsUntouched m := fun s t hr => absurd rfl (h s _ t hr)

theorem of_queues {f : State → Bytes} (h : Queues m f) : RejectsUntouched m := of_raises (.of_queues h)

theorem of_sends {n : Nat} {f : State → Bytes} (h : Sends n m f) : RejectsUntouched m := of_raises h.raises_notInvalid

/-- The response is then all that has changed. -/
theorem respondWith (hm : RejectsUntouched m) (ht : t = Machine.respondWith (m s))
    (hresp : t.resp = .error .invalidArgument) : t = s.respond (.error .invalidArgument) := by
  subst ht
  cases hr : m s with
  | done v u => rw [hr] at hresp; cases hresp
  | raised e u =>
    rw [hr] at hresp
    cases hresp
    rw [hm s u hr]
    rfl

theorem of_i2cRequest (hm : RejectsUntouched m) {allowed : Fsm → Bool} (hx : i2cRequest allowed m s = .next t)
    (hresp : t.resp = .error .invalidArgument) : t = s.respond (.error .invalidArgument) := by
  obtain ⟨-, -, ht⟩ := i2cRequest_next hx
  exact hm.respondWith ht hresp

theorem of_spiRequest (hm : RejectsUntouched m) (hx : spiRequest m s = .next t)
    (hresp : t.resp = .error .invalidArgument) : t = s.respond (.error .invalidArgument) := by
  obtain ⟨-, ht⟩ := spiRequest_next hx
  exact hm.respondWith ht hresp

theorem of_dcRequest (hm : RejectsUntouched m) (hx : dcRequest m s = .next t)
    (hresp : t.resp = .error .invalidArgument) : t = s.respond (.error .invalidArgument) := by
  obtain ⟨-, -, ht⟩ := dcRequest_next hx
  exact hm.respondWith ht hresp

end RejectsUntouched

/-! ## Each family -/

section
variable {i : Instr} {s t : State}

theorem exec_function_rejected (hfam : familyOf i.op = .function) (hx : exec i s = .next t)
    (hresp : t.resp = .error .invalidArgument) : t = s.respond (.error .invalidArgument) := by
  obtain ⟨r, rfl⟩ := exec_function_respond hfam hx
  cases hresp
  rfl

theorem exec_enc_rejected (hfam : familyOf i.op = .enc) (hx : exec i s = .next t)
    (hresp : t.resp = .error .invalidArgument) : t = s.respond (.error .invalidArgument) := by
  obtain ⟨c, hexec⟩ := exec_enc hfam s
  rcases appendCommand_next (hexec.symm.trans hx) with ⟨bs, -, rfl⟩ | ⟨e, -, rfl⟩ <;> cases hresp
  rfl

theorem exec_i2c_rejected (hfam : familyOf i.op = .i2c) (hx : exec i s = .next t)
    (hresp : t.resp = .error .invalidArgument) : t = s.respond (.error .invalidArgument) := by
  unfold exec at hx
  cases i with
  | i2cInit =>
    rcases exec_i2cInit_cases hx with ht | ⟨-, rfl | rfl⟩
    · exact ht
    all_goals cases hresp
  | i2cSetTiming =>
    rcases exec_i2cSetTiming_cases hx with ht | ⟨-, rfl⟩
    · exact ht
    · cases hresp
  | i2cStart => exact (RejectsUntouched.of_sends sends_i2cStart.thenRet).of_i2cRequest hx hresp
  | i2cStop => exact (RejectsUntouched.of_sends sends_i2cStop.thenRet).of_i2cRequest hx hresp
  | i2cSendByte b => exact (RejectsUntouched.of_sends (sends_i2cSendByte b).thenRet).of_i2cRequest hx hresp
  | i2cSendAddress a7 rw =>
    exact (RejectsUntouched.of_sends (sends_i2cSendByte (frame a7 rw)).thenRet).of_i2cRequest hx hresp
  | i2cReceiveByte a => exact (RejectsUntouched.of_sends (sends_i2cReceiveByte a).thenRet).of_i2cRequest hx hresp
  | i2cScan => exact (RejectsUntouched.of_sends (sends_i2cScanFrom 1 126).thenRet).of_i2cRequest hx hresp
  | i2cWrite a7 reg data =>
    have hdata := Transacts.i2cWriteData 2 data fun _ => .of_sends (sends_i2cStop.thenRet (v := fun _ => Result.unit))
    have hwrite := ((hdata.expectAck (sends_i2cSendByte reg)).expectAck
      (sends_i2cSendByte (frame a7 .zero))).before sends_i2cStart
    exact (RejectsUntouched.of_raises hwrite.raises_notInvalid).of_i2cRequest hx hresp
  | i2cRead a7 reg n =>
    refine RejectsUntouched.of_i2cRequest ?_ hx hresp
    split
    · exact .raise _
    · have hdata := (sends_i2cReadData n).andThen fun data => sends_i2cStop.thenRet (v := fun _ => Result.bytes data)
      have hagain := ((Transacts.of_sends hdata).expectAck (k := 2) (sends_i2cSendByte (frame a7 .one))).before
        sends_i2cStart
      have hread := ((hagain.expectAck (sends_i2cSendByte reg)).expectAck
        (sends_i2cSendByte (frame a7 .zero))).before sends_i2cStart
      exact .of_raises hread.raises_notInvalid
  | i2cFastWrite a7 reg data =>
    have hbatch := sends_fastBatch (by omega) fun _ h => responseTotal_fastWriteSeq h a7 reg data
    exact (RejectsUntouched.of_raises (hbatch.raises_notInvalid.andThen fun _ => .withState fun _ =>
      (raiseNack_notInvalid _).andThen fun _ => .ret _)).of_i2cRequest hx hresp
  | i2cFastRead a7 reg n =>
    refine RejectsUntouched.of_i2cRequest ?_ hx hresp
    split
    · exact .raise _
    · have hbatch := sends_fastBatch (by omega) fun _ h => responseTotal_fastReadSeq h a7 reg n
      exact .of_raises (hbatch.raises_notInvalid.andThen fun _ =>
        (raiseNack_notInvalid _).andThen fun _ => .ret _)
  | _ => cases hfam

theorem exec_spi_rejected (hfam : familyOf i.op = .spi) (hx : exec i s = .next t)
    (hresp : t.resp = .error .invalidArgument) : t = s.respond (.error .invalidArgument) := by
  unfold exec at hx
  cases i with
  | spiInit =>
    rcases exec_spiInit_cases hx with ht | ⟨-, rfl | rfl⟩
    · exact ht
    all_goals cases hresp
  | spiSetCsLevel level =>
    exact (RejectsUntouched.of_queues ((queues_csSet level).thenQuiet fun _ => .ret _)).of_spiRequest hx hresp
  | spiEnable => exact (RejectsUntouched.of_queues (queues_spiEnable.thenQuiet fun _ => .ret _)).of_spiRequest hx hresp
  | spiDisable =>
    exact (RejectsUntouched.of_queues (queues_spiDisable.thenQuiet fun _ => .ret _)).of_spiRequest hx hresp
  | spiWrite payload =>
    refine RejectsUntouched.of_spiRequest ?_ hx hresp
    split
    · exact .of_sends (sends_spiWrite ‹_›).thenRet
    · exact .raise _
  | spiTransfer payload =>
    refine RejectsUntouched.of_spiRequest ?_ hx hresp
    split
    · exact .of_sends (sends_spiTransfer ‹_›).thenReadRet
    · exact .raise _
  | _ => cases hfam

theorem exec_dc_rejected (hfam : familyOf i.op = .dc) (hx : exec i s = .next t)
    (hresp : t.resp = .error .invalidArgument) : t = s.respond (.error .invalidArgument) := by
  unfold exec at hx
  cases i with
  | dcInit =>
    rcases exec_dcInit_cases hx with ht | ⟨-, -, rfl | rfl⟩
    · exact ht
    all_goals cases hresp
  | dcSetDcLevel isCommand =>
    exact (RejectsUntouched.of_queues ((queues_dcSet _ _).thenQuiet fun _ => .ret _)).of_dcRequest hx hresp
  | dcWrite payload isCommand =>
    refine RejectsUntouched.of_dcRequest ?_ hx hresp
    split
    · exact .raise _
    · exact .of_sends (sends_dcWrite (by omega) isCommand).thenRet
  | dcTransfer payload isCommand =>
    refine RejectsUntouched.of_dcRequest ?_ hx hresp
    split
    · exact .raise _
    · exact .of_sends (sends_dcTransfer (by omega) isCommand).thenReadRet
  | dcCommandStream buf =>
    refine RejectsUntouched.of_dcRequest ?_ hx hresp
    cases hparse : parseStream buf with
    | error e => exact .raise e
    | ok entries => exact .of_sends (sends_dcCommandStream hparse).thenRet
  | dcResetDance =>
    have hdance := (queues_dance.thenFlush fun _ hp => responseTotal_danceBytes hp).thenRet (v := fun _ => Result.unit)
    simp only [andThen_assoc] at hdance
    exact (RejectsUntouched.of_sends hdance).of_dcRequest hx hresp
  | dcResetTimed ms1 ms2 =>
    have htimed := sends_resetTimed ms1 ms2
    simp only [resetPulse, andThen_assoc] at htimed
    exact (RejectsUntouched.of_sends htimed).of_dcRequest hx hresp
  | _ => cases hfam

/-- No XP request checks an operand (R290 to R296). -/
theorem exec_xp_resp_ne_invalidArgument (hfam : familyOf i.op = .xp) (hx : exec i s = .next t) :
    t.resp ≠ .error .invalidArgument := by
  cases i with
  | xpExecute =>
    rw [exec_xpExecute] at hx
    rcases executeBuffer_cases s with ⟨-, hflush⟩ | ⟨-, hflush⟩
    · rw [andThen_of_done hflush] at hx; cases hx; nofun
    · rw [andThen_of_raised hflush] at hx; cases hx; nofun
  | xpRead n =>
    rw [exec_xpRead] at hx
    rcases read_cases n s with ⟨-, hread⟩ | ⟨-, -, hread⟩ | ⟨-, -, hread⟩
    · rw [andThen_of_done hread] at hx; cases hx; nofun
    · rw [andThen_of_done hread] at hx; cases hx; nofun
    · rw [andThen_of_raised hread] at hx; cases hx; nofun
  | xpEnqueue | xpClearInput | xpClearOutput | xpSetClockDivisor | xpSetLoopback => cases hx; nofun
  | _ => cases hfam

end

/-- Settles O56, family by family: a request that can raise InvalidArgument raises it before it acts. -/
theorem invalidArgumentChangesNothing : Obligations.InvalidArgumentChangesNothing := by
  intro i s t hx hresp
  cases hfam : familyOf i.op with
  | function => exact exec_function_rejected hfam hx hresp
  | enc => exact exec_enc_rejected hfam hx hresp
  | i2c => exact exec_i2c_rejected hfam hx hresp
  | spi => exact exec_spi_rejected hfam hx hresp
  | dc => exact exec_dc_rejected hfam hx hresp
  | xp => exact absurd hresp (exec_xp_resp_ne_invalidArgument hfam hx)

end Sys2Proof.Machine
end

section
/-! PROOFS. The reset state (R330, R331): no unit is ready and the three buffers are empty. -/

namespace Sys2Proof.Machine

/-- The pins are constrained only in a ready unit and a present capability (R34, R40). -/
theorem pinsInv_of_absent {p : Params} {u : Spi} {d : Dc} (hready : u.ready = false) (hpresent : d.present = false) :
    PinsInv p u d :=
  ⟨fun h => absurd h (by simp [hready]), fun h => absurd h (by simp [hpresent])⟩

/-- A unit that is not ready is `Idle` (R29, R30), and the five timing counts start at the suggested 4 (log 15). -/
theorem I2c.reset_inv : I2c.reset.Inv := by
  have hidle : I2c.reset.fsm ≠ .stopped := nofun
  have hcount : (4 : Byte) ≠ 0 := by decide
  exact ⟨hidle, fun _ => rfl, hcount, hcount, hcount, hcount, hcount⟩

/-- A stream without commands owes no response (R123). -/
@[simp] theorem responseTotal_nil (p : Params) : responseTotal p [] = some 0 :=
  responseTotal_of_bytes (Scan.bytes_nil p _)

/-- Before anything is enqueued no response is owed and none waits (R331). -/
theorem State.accounted_of_empty {s : State} (hcb : s.xp.cb = []) (hrxq : s.xp.rxq = []) (hwire : s.xp.wire = []) :
    s.accounted := by
  refine ⟨hrxq, ?wholeCommands, ?nothingOwed⟩
  case wholeCommands => rw [hwire, responseTotal_nil]; rfl
  case nothingOwed => rw [hcb, List.append_nil]

/-- Settles O54, from the reset values of the spec: no unit is ready, and the buffers are empty. -/
theorem resetMeetsTheInvariant : Obligations.ResetMeetsTheInvariant := by
  obtain ⟨-, -, hspi, hdc, hcb, hrxq, hwire, -⟩ := resetValuesOfTheSpec
  exact ⟨State.reset.inv_iff.mpr ⟨I2c.reset_inv, pinsInv_of_absent hspi hdc⟩, State.accounted_of_empty hcb hrxq hwire⟩

end Sys2Proof.Machine
end
